-- ==== Sys2Proof/Word.lean ====
section
/-! DEFINITION. The words of the machine (spec/00_scope.md R8, R9): bytes, 16-bit register cells, 24-bit bus
addresses, and the two operand widths that the flags M and X select. -/

namespace Sys2Proof

/-- One byte: what the bus moves (R89). -/
abbrev Byte := BitVec 8

/-- A 16-bit register cell or operand (R20). -/
abbrev Word := BitVec 16

/-- A 24-bit bus address, bank in bits 23-16, offset in bits 15-0 (R70). -/
abbrev Addr := BitVec 24

/-- The width of an operation: 8 or 16 bits, selected by M or X at every access (R23). -/
inductive Width where
  | w8
  | w16
deriving DecidableEq, Repr

end Sys2Proof
end

