-- ==== Sys2Proof/Machine/Bits.lean ====
section
/-! DEFINITION. Byte and bank fields of words and addresses, sign extension, truncation to a width
(spec/00_scope.md R9, R10, R12; spec/20_memory.md R70, R86). -/

namespace Sys2Proof

/-- `R[7:0]`, `getLower` of R26. -/
def loByte (v : Word) : Byte := v.setWidth 8

/-- `R[15:8]`, `getUpper` of R26. -/
def hiByte (v : Word) : Byte := (v >>> 8).setWidth 8

/-- `{hi, lo}` of R9: two bytes, `hi` in the upper bits. -/
def mkWord (hi lo : Byte) : Word := hi ++ lo

/-- `zext_16` of a byte (R9). -/
def zext8 (b : Byte) : Word := b.setWidth 16

/-- `sext_16` of a byte (R9, R125). -/
def sext8 (b : Byte) : Word := b.signExtend 16

/-- `b : off` of R9, the 24-bit address of a bank and an offset. -/
def mkAddr (bank : Byte) (off : Word) : Addr := bank ++ off

/-- Bits 23-16 of an address (R70). -/
def bankOf (a : Addr) : Byte := (a >>> 16).setWidth 8

/-- Bits 15-0 of an address (R70). -/
def offOf (a : Addr) : Word := a.setWidth 16

/-- The number of bits of a width. -/
def Width.bits : Width → Nat
  | .w8 => 8
  | .w16 => 16

/-- The number of bytes of an operand of a width (R153: `w/8`). -/
def Width.bytes : Width → Nat
  | .w8 => 1
  | .w16 => 2

/-- `v mod 2^w`, held in a 16-bit word (R12). -/
def trunc (w : Width) (v : Word) : Word :=
  match w with
  | .w8 => zext8 (loByte v)
  | .w16 => v

/-- Bit `w-1` of `v`, "sign bit" at width `w` (R12). -/
def signBit (w : Width) (v : Word) : Bool :=
  match w with
  | .w8 => v.getLsbD 7
  | .w16 => v.getLsbD 15

/-- Bit `w-2` of `v` (BIT, R265). -/
def belowSignBit (w : Width) (v : Word) : Bool :=
  match w with
  | .w8 => v.getLsbD 6
  | .w16 => v.getLsbD 14

end Sys2Proof
end

