-- ==== Sys2Proof/Config.lean ====
section
/-! DEFINITION. The implementation parameters of spec/00_scope.md R8 that no State field holds, and the free values:
constants without a body, so that no proof can learn what they are. -/

namespace Sys2Proof

/-- The values reset leaves unspecified (spec/10_state.md R47, R48; spec/70_reset_and_hazards.md R480): one draw of
A, XL, YL, SL, the flags N V Z C, and MDR. -/
structure ResetDraw where
  a   : Word
  xl  : Byte
  yl  : Byte
  sl  : Byte
  n   : Bool
  v   : Bool
  z   : Bool
  c   : Bool
  mdr : Byte
deriving DecidableEq, Repr, Inhabited

/-- What a cartridge answers to a read (spec/20_memory.md R76). -/
inductive CartAnswer where
  | byte (v : Byte)
  | undriven
  | unsupported
deriving DecidableEq, Repr, Inhabited

namespace Config

/-- FREE VALUE (log 3). The draw of the n-th reset after power-on: `ResetDraw` of R480, with no law. The reset operation applies
it to the counter `State.draws` and advances the counter. -/
opaque resetDraw : Nat → ResetDraw

/-- OPEN parameter `COP_EMU_B` (R8, R421, spec/92_eei_decisions.md D9): bit 4 of the P that COP pushes in emulation mode. FREE VALUE (log 7). -/
opaque copEmuB : Bool

/-- OPEN parameter `DMA_CYCLES(n)` (R8, D38): the informative cycle cost of a DMA of n bytes. Nothing reads it but Machine/Cycles. -/
opaque dmaCycles : Nat → Nat

/-- `IRQ_RESPECTS_I` (R8, R412, D10), at the spec's value. -/
def irqRespectsI : Bool := true

/-- `DMA_ZERO_MEANS_64K` (R8, R455, D25), at the spec's value. -/
def dmaZeroMeans64K : Bool := false

/-- The `Cart` parameter (R76) at an address of the cartridge's own logic (`CartCell.device`): the answer to a read, from the
cartridge's inner state and the address without its mirror (R78). FREE VALUE (log 5). -/
opaque cartDeviceRead : Nat → Nat → CartAnswer

/-- The cartridge's inner state after a read of such an address ("A cartridge read or write may have effects the `Cart`
parameter gives", R91). FREE VALUE (log 5). -/
opaque cartDeviceAfterRead : Nat → Addr → Nat

/-- Whether a write to such an address is supported (`ok` or `unsupported`, R76). FREE VALUE (log 5). -/
opaque cartDeviceWriteOk : Nat → Addr → Byte → Bool

/-- The cartridge's inner state after a write to such an address (R91). FREE VALUE (log 5). -/
opaque cartDeviceAfterWrite : Nat → Addr → Byte → Nat

end Config

end Sys2Proof
end

