-- ==== Sys2Proof/Machine/State.lean ====
section
/-! DEFINITION. The machine's state as plain data: every piece of state of spec/10_state.md, the fatal conditions of
spec/60_exceptions.md R441, and the state after power-on and reset (R48, R480, R482). -/

namespace Sys2Proof.Machine

/-- The interrupt kinds (R37, R411). -/
inductive IntKind where
  | cop
  | brk
  | abort
  | nmi
  | reset
  | irq
deriving DecidableEq, Repr

/-- Whether a bus access that faulted was a read or a write (R441, code 4). -/
inductive Access where
  | read
  | write
deriving DecidableEq, Repr

/-- The fatal conditions of R441, each with what it records. A step that raises one answers a next state whose field `fault`
holds it and whose other fields keep the writes made before the raise (R440); `step` of a machine whose `fault` is set
answers that fault, since such a machine takes no further step (R403). -/
inductive Fault where
  /-- Code 1. Raised by the decoder for an opcode with no table entry (R122). Safe: the table has all 256 entries. -/
  | unimplementedOpcode (opAddr : Addr) (opcode : Byte)
  /-- Code 2. Raised by ADC and SBC with P.D = 1 (R250). Safe: the spec names it fatal. -/
  | decimalMode (opAddr : Addr) (opcode : Byte)
  /-- Code 3. Raised by the address decoder for an address no rule covers (R77). Safe: no address reaches it. -/
  | busDecode (address : Addr)
  /-- Code 4. Raised by a bus access that the cartridge calls unsupported (R76, R80, R81). Safe: the spec names it fatal. -/
  | cartUnsupported (address : Addr) (access : Access) (opAddr : Addr)
  /-- Code 5. Raised by the DMA engine for patterns 5-7 (R453, R455). Safe: the spec names it fatal. -/
  | dmaPattern (channel : Nat) (control : Byte) (opAddr : Addr)
  /-- Code 6. Raised by the DMA engine for a CPU-bus address in the register surface (R455). Safe: the spec names it fatal. -/
  | dmaAbusRegister (channel : Nat) (address : Addr) (opAddr : Addr)
deriving DecidableEq, Repr

/-- Why the model gives no meaning. -/
inductive Refusal where
  /-- Raised by `exec` for an instruction that has no meaning yet. Safe. No arm raises it: every instruction has its meaning. -/
  | notModelled (mnemonic : String)
deriving DecidableEq, Repr

/-- The status register P as its eight flags (R20, R30). -/
structure Flags where
  n : Bool
  v : Bool
  m : Bool
  x : Bool
  d : Bool
  i : Bool
  z : Bool
  c : Bool
deriving DecidableEq, Repr

/-- One column of the vector table (R422): a 16-bit vector for each interrupt kind. -/
structure Vectors where
  cop   : Word
  brk   : Word
  abort : Word
  nmi   : Word
  reset : Word
  irq   : Word
deriving DecidableEq, Repr

/-- The parameter `VT(kind, mode)` (R8, R422). -/
structure VectorTable where
  native    : Vectors
  emulation : Vectors
deriving DecidableEq, Repr

/-- What the cartridge holds at one address of its regions (R75, R76; log 5). -/
inductive CartCell where
  /-- No device answers: the bus treats the access as open bus (R76). -/
  | undriven
  /-- A read-only byte: a write is accepted and changes nothing. -/
  | rom (v : Byte)
  /-- A byte that a write stores. -/
  | ram (v : Byte)
  /-- The cartridge's own logic answers, by the free functions of Config and the inner state `Cart.inner`. -/
  | device
  /-- Every access is an unsupported mapping (`F_CART_UNSUPPORTED`). -/
  | unsupported
deriving DecidableEq, Repr

/-- The parameter `Cart` (R8, R76) as plain data: what each address holds, and the inner state of the cartridge's own logic. -/
structure Cart where
  cells : List (Nat × CartCell)
  inner : Nat
deriving DecidableEq, Repr

/-- Byte storage in canonical form: addresses strictly rising, no entry equal to what an unlisted address reads as. -/
abbrev Memory := List Host.Cell

/-- The state of the core. -/
structure State where
  /-- The accumulator cell (R20, R21). -/
  a       : Word
  /-- The index register X (R20, R22). -/
  x       : Word
  /-- The index register Y (R20, R22). -/
  y       : Word
  /-- The stack pointer S (R20, R28). -/
  sp      : Word
  /-- The direct-page register D (R20, R29). -/
  d       : Word
  /-- The data-bank register (R20, R29). -/
  dbr     : Byte
  /-- The program-bank register K (R20, R29). -/
  k       : Byte
  /-- The program counter (R20, R35). -/
  pc      : Word
  /-- The status register P (R20, R30). -/
  p       : Flags
  /-- The emulation flag E (R20, R31). -/
  e       : Bool
  /-- The open-bus latch MDR (R36). -/
  mdr     : Byte
  /-- The pending-interrupt slot (R37). -/
  pending : Option IntKind
  /-- The wait flag, set by WAI (R38). -/
  waiting : Bool
  /-- The stop flag, set by STP (R39). -/
  stopped : Bool
  /-- The recorded fatal condition (R40). -/
  fault   : Option Fault
  /-- WRAM, by index 0 to 0x1FFFF (R41). -/
  wram    : Memory
  /-- The register surface, by offset, DMA registers included (R42, R43). -/
  cells   : Memory
  /-- The cartridge, a parameter of the session (R44, R76). -/
  cart    : Cart
  /-- The vector table, a parameter of the session (R44, R422). -/
  vt      : VectorTable
  /-- The address of the opcode of the step in progress: `opAddr` of R401, which a fault records. -/
  opAddr  : Addr
  /-- The model's own: how many reset draws have been taken (log 3). -/
  draws   : Nat
deriving DecidableEq, Repr

/-- The power-on state (R48, R480, R482): what the spec fixes, and what it leaves to the draw `dr`, to the WRAM contents, to
`CellsInit` and to the loader's `Cart` and `VT` (R472), as inputs with no law. -/
def State.powerOn (dr : ResetDraw) (wram cellsInit : Memory) (cart : Cart) (vt : VectorTable) : State where
  a := dr.a
  x := dr.xl.setWidth 16
  y := dr.yl.setWidth 16
  sp := (0x01 : Byte) ++ dr.sl
  d := 0
  dbr := 0
  k := 0
  pc := vt.emulation.reset
  p := { n := dr.n, v := dr.v, m := true, x := true, d := false, i := true, z := dr.z, c := dr.c }
  e := true
  mdr := dr.mdr
  pending := none
  waiting := false
  stopped := false
  fault := none
  wram := wram
  cells := cellsInit
  cart := cart
  vt := vt
  opAddr := 0
  draws := 0

/-- DESIGN CHOICE (log 2, unsafe): the draw that `State.reset` names, no value of it zero, since R47 forbids zero. -/
def ResetDraw.named : ResetDraw where
  a := 0x0001
  xl := 0x01
  yl := 0x01
  sl := 0xFF
  n := true
  v := true
  z := true
  c := true
  mdr := 0x01

/-- DESIGN CHOICE (log 4, unsafe): the vector table that `State.reset` names, that of spec/95_test_vectors.md section 0, and
0x8000 for the native RESET vector, which no rule reads (R422). -/
def VectorTable.named : VectorTable where
  native := { cop := 0xA300, brk := 0xA200, abort := 0xA400, nmi := 0xA000, reset := 0x8000, irq := 0xA100 }
  emulation := { cop := 0x9300, brk := 0x9200, abort := 0x9400, nmi := 0x9000, reset := 0x8000, irq := 0x9100 }

/-- The machine right after power-on reset, for the named draw and vector table, nothing listed in any memory, and a cartridge
that drives no address: the program is loaded from outside (R472; log 4). -/
def State.reset : State :=
  State.powerOn ResetDraw.named [] [] { cells := [], inner := 0 } VectorTable.named

end Sys2Proof.Machine
end

