-- ==== Sys2Proof/Machine/Flags.lean ====
section
/-! DEFINITION. The status register's byte view and every flag computation of the spec (spec/10_state.md R30, R34;
spec/41_load_store_transfer.md R207; spec/42_arith_logic.md R251-R275). -/

namespace Sys2Proof.Machine

/-- P as a byte, in the bit order of R30: N7 V6 M5 X4 D3 I2 Z1 C0. -/
def Flags.toByte (p : Flags) : Byte :=
  BitVec.ofBool p.n ++ BitVec.ofBool p.v ++ BitVec.ofBool p.m ++ BitVec.ofBool p.x ++
    BitVec.ofBool p.d ++ BitVec.ofBool p.i ++ BitVec.ofBool p.z ++ BitVec.ofBool p.c

/-- The flags a byte names, in the bit order of R30. -/
def Flags.ofByte (v : Byte) : Flags where
  n := v.getLsbD 7
  v := v.getLsbD 6
  m := v.getLsbD 5
  x := v.getLsbD 4
  d := v.getLsbD 3
  i := v.getLsbD 2
  z := v.getLsbD 1
  c := v.getLsbD 0

/-- "Result is zero" at a width (R207). -/
def isZeroAt (w : Width) (v : Word) : Bool := trunc w v == 0

/-- `setNZ(v, w)` (R207). -/
def Flags.setNZ (p : Flags) (v : Word) (w : Width) : Flags :=
  { p with n := signBit w v, z := isZeroAt w v }

/-- A result with the carry and the overflow of the operation that made it. -/
structure AluResult where
  value    : Word
  carry    : Bool
  overflow : Bool
deriving DecidableEq, Repr

/-- ADC's arithmetic at width `w` (R251): the exact sum, its carry out of bit `w-1`, and the signed overflow. -/
def addWithCarry (w : Width) (a m : Word) (c : Bool) : AluResult :=
  let r := a.toNat + m.toNat + c.toNat
  let res := BitVec.ofNat 16 (r % 2 ^ w.bits)
  { value := res
    carry := decide (2 ^ w.bits ≤ r)
    overflow := signBit w (~~~(a ^^^ m) &&& (a ^^^ res)) }

/-- SBC's arithmetic at width `w` (R252): the sum with the complement of the operand; carry 1 means no borrow. -/
def subWithBorrow (w : Width) (a m : Word) (c : Bool) : AluResult :=
  let mc := trunc w (~~~m)
  let r := a.toNat + mc.toNat + c.toNat
  let res := BitVec.ofNat 16 (r % 2 ^ w.bits)
  { value := res
    carry := decide (2 ^ w.bits ≤ r)
    overflow := signBit w ((a ^^^ m) &&& (a ^^^ res)) }

/-- The flags ADC and SBC leave: N, V, Z and C from the result (R251, R252). -/
def Flags.setAlu (p : Flags) (r : AluResult) (w : Width) : Flags :=
  { p with c := r.carry, v := r.overflow }.setNZ r.value w

/-- The flags CMP, CPX and CPY leave: C is `a >= m`, N and Z those of the difference (R253-R255). -/
def Flags.compare (p : Flags) (a m : Word) (w : Width) : Flags :=
  { p with c := decide (m.toNat ≤ a.toNat) }.setNZ (trunc w (a - m)) w

/-- `(v << 1) mod 2^w` with `cin` in bit 0 (ASL, ROL; R268, R270). -/
def shiftLeft (w : Width) (v : Word) (cin : Bool) : Word :=
  trunc w ((v <<< 1) ||| zext8 (BitVec.ofNat 8 cin.toNat))

/-- `v >> 1` with `cin` in bit `w-1` (LSR, ROR; R269, R271). -/
def shiftRight (w : Width) (v : Word) (cin : Bool) : Word :=
  (v >>> 1) ||| ((BitVec.ofNat 16 cin.toNat) <<< (w.bits - 1))

end Sys2Proof.Machine
end

