-- ==== Sys2Proof/Machine/Bus.lean ====
section
/-! DEFINITION. The result of an operation that may raise a fatal condition, byte storage in canonical form, the address
decoder, and the bus's read and write of one byte (spec/20_memory.md R70-R91). -/

namespace Sys2Proof.Machine

/-- What an operation over the state ends in: a value and the state, or a fatal condition raised in a state (R440). -/
inductive Res (α : Type) where
  | ok (v : α) (s : State)
  | raise (f : Fault) (s : State)
deriving DecidableEq, Repr

/-- One operation after another: a raise ends the step at that point (R440). -/
def Res.bind {α β : Type} (r : Res α) (f : α → State → Res β) : Res β :=
  match r with
  | .ok v s => f v s
  | .raise e s => .raise e s

/-- The three outcomes of the host, at this machine's types. -/
abbrev Out := Host.Outcome State Fault Refusal

/-- The end of a step. A raise records the fatal condition, and the writes made before it stay (R440). -/
def finish (r : Res Unit) : Out :=
  match r with
  | .ok _ s => .next s
  | .raise f s => .next { s with fault := some f }

/-! ### Byte storage -/

/-- What a list of address and value pairs holds at an address; `d` is what an unlisted address holds. -/
def sparseRead {β : Type} (d : β) : List (Nat × β) → Nat → β
  | [], _ => d
  | (k, v) :: rest, a => if k = a then v else sparseRead d rest a

/-- Store a value at an address, keeping the canonical form. -/
def sparseWrite {β : Type} [DecidableEq β] (d : β) : List (Nat × β) → Nat → β → List (Nat × β)
  | [], a, v => if v = d then [] else [(a, v)]
  | (k, w) :: rest, a, v =>
    if a < k then (if v = d then (k, w) :: rest else (a, v) :: (k, w) :: rest)
    else if a = k then (if v = d then rest else (a, v) :: rest)
    else (k, w) :: sparseWrite d rest a v

/-- The canonical form: addresses strictly rising from `lo`, and no entry equal to `d`. -/
def sparseWfFrom {β : Type} [DecidableEq β] (d : β) : Nat → List (Nat × β) → Bool
  | _, [] => true
  | lo, (k, v) :: rest => decide (lo ≤ k) && decide (v ≠ d) && sparseWfFrom d (k + 1) rest

/-- What an address of WRAM or of the register surface reads as when no entry lists it. DESIGN CHOICE (log 1, unsafe for runs
from `State.reset`): the spec leaves both contents open, and R47 forbids zero, so a byte that is not zero stands here. -/
def Memory.unlisted : Byte := 0x55

/-- The byte stored at an address. -/
def Memory.read (m : Memory) (a : Nat) : Byte := sparseRead Memory.unlisted m a

/-- Store one byte. -/
def Memory.write (m : Memory) (a : Nat) (v : Byte) : Memory := sparseWrite Memory.unlisted m a v

/-- The canonical form of a memory. -/
def Memory.wf (m : Memory) : Bool := sparseWfFrom Memory.unlisted 0 m

/-- Every listed address satisfies a test. -/
def keysIn {β : Type} (ok : Nat → Bool) (m : List (Nat × β)) : Bool := m.all fun e => ok e.1

/-- The WRAM indices, 0 to 0x1FFFF (R41). -/
def isWramIndex (i : Nat) : Bool := decide (i < 0x20000)

/-- The offsets of the register surface, 0x2100-0x21FF and 0x4000-0x43FF (R42). -/
def isCellOffset (o : Nat) : Bool := decide (0x2100 ≤ o ∧ o ≤ 0x21FF) || decide (0x4000 ≤ o ∧ o ≤ 0x43FF)

/-! ### The address decoder -/

/-- The regions of R71, and the arm no address reaches (R77). -/
inductive Region where
  | wram (i : Nat)
  | reg (off : Nat)
  | openBus
  | cart (a : Addr)
  | undecoded
deriving DecidableEq, Repr

/-- The register-mirror banks, 0x00-0x3F and 0x80-0xBF (R13). -/
def isMirrorBank (bank : Nat) : Bool := decide (bank ≤ 0x3F) || decide (0x80 ≤ bank ∧ bank ≤ 0xBF)

/-- `Decode(a)` (R71, R72). -/
def decodeAddr (a : Addr) : Region :=
  let bank := (bankOf a).toNat
  let off := (offOf a).toNat
  if isMirrorBank bank then
    if off ≤ 0x1FFF then .wram off
    else if off ≤ 0x20FF then .openBus
    else if off ≤ 0x21FF then .reg off
    else if off ≤ 0x3FFF then .openBus
    else if off ≤ 0x43FF then .reg off
    else if off ≤ 0x7FFF then .openBus
    else .cart a
  else if bank ≤ 0x7D ∨ 0xC0 ≤ bank then .cart a
  else if bank ≤ 0x7F then .wram ((bank - 0x7E) * 0x10000 + off)
  else .undecoded

/-! ### The cartridge -/

/-- The cartridge address without its mirror: `Cart.read(b:o) = Cart.read((b + 0x80):o)` for the register-mirror banks (R76). -/
def cartKey (a : Addr) : Nat :=
  if isMirrorBank (bankOf a).toNat then a.toNat % 0x800000 else a.toNat

/-- `Cart.read(a)` (R76): the answer, and the cartridge after it (R91). -/
def cartRead (c : Cart) (a : Addr) : CartAnswer × Cart :=
  match sparseRead CartCell.undriven c.cells (cartKey a) with
  | .undriven => (.undriven, c)
  | .rom v => (.byte v, c)
  | .ram v => (.byte v, c)
  | .device => (Config.cartDeviceRead c.inner (cartKey a), { c with inner := Config.cartDeviceAfterRead c.inner a })
  | .unsupported => (.unsupported, c)

/-- `Cart.write(a, v)` (R76): the cartridge after it, or none where the cartridge answers `unsupported`.
DESIGN CHOICE (log 5): a write answered `unsupported` leaves the cartridge's own state as it was. R76 and R91 leave the effects of a
write to Cart and do not say whether a refused one has any. -/
def cartWrite (c : Cart) (a : Addr) (v : Byte) : Option Cart :=
  match sparseRead CartCell.undriven c.cells (cartKey a) with
  | .undriven => some c
  | .rom _ => some c
  | .ram _ => some { c with cells := sparseWrite CartCell.undriven c.cells (cartKey a) (.ram v) }
  | .device =>
    if Config.cartDeviceWriteOk c.inner a v then some { c with inner := Config.cartDeviceAfterWrite c.inner a v } else none
  | .unsupported => none

/-! ### Bus accesses -/

/-- A read that returned `v`: the latch takes the byte the read returns (R36, R80). -/
def readLatched (v : Byte) (s : State) : Res Byte := .ok v { s with mdr := v }

/-- `MemRead(a, 1)` (R80). -/
def memRead (a : Addr) (s : State) : Res Byte :=
  match decodeAddr a with
  | .wram i => readLatched (s.wram.read i) s
  | .reg o => readLatched (s.cells.read o) s
  | .openBus => readLatched s.mdr s
  | .cart a =>
    match cartRead s.cart a with
    | (.byte v, c) => readLatched v { s with cart := c }
    | (.undriven, c) => readLatched s.mdr { s with cart := c }
    | (.unsupported, c) => .raise (.cartUnsupported a .read s.opAddr) { s with cart := c }
  | .undecoded => .raise (.busDecode a) s

/-- `MemWrite(a, 1, v)` but for the DMA trigger (R81): the latch is updated first, whatever the region. -/
def storeByte (a : Addr) (v : Byte) (s : State) : Res Unit :=
  match decodeAddr a with
  | .wram i => .ok () { s with mdr := v, wram := s.wram.write i v }
  | .reg o => .ok () { s with mdr := v, cells := s.cells.write o v }
  | .openBus => .ok () { s with mdr := v }
  | .cart a =>
    match cartWrite s.cart a v with
    | some c => .ok () { s with mdr := v, cart := c }
    | none => .raise (.cartUnsupported a .write s.opAddr) { s with mdr := v }
  | .undecoded => .raise (.busDecode a) { s with mdr := v }

/-! ### The stored byte, without an access -/

/-- What stands at a bus address, seen without a bus access: for statements about what an instruction leaves unchanged. -/
inductive Stored where
  /-- A WRAM byte or a register cell. -/
  | byte (v : Byte)
  /-- Nothing is stored at an open-bus address. -/
  | openBus
  /-- What the cartridge holds there. -/
  | cart (c : CartCell)
deriving DecidableEq, Repr

/-- The stored byte at a bus address. -/
def State.stored (s : State) (a : Addr) : Stored :=
  match decodeAddr a with
  | .wram i => .byte (s.wram.read i)
  | .reg o => .byte (s.cells.read o)
  | .openBus => .openBus
  | .cart a => .cart (sparseRead CartCell.undriven s.cart.cells (cartKey a))
  | .undecoded => .openBus

/-- The byte a read of a bus address returns where plain storage answers it: a WRAM byte, a register cell, a ROM or RAM byte
of the cartridge. None where the latch, or the cartridge's own logic, decides. -/
def State.peek (s : State) (a : Addr) : Option Byte :=
  match s.stored a with
  | .byte v => some v
  | .cart (.rom v) => some v
  | .cart (.ram v) => some v
  | _ => none

/-- Two bus addresses reach the same stored byte (R72, R73, R78). -/
def sameByte (a b : Addr) : Bool :=
  match decodeAddr a, decodeAddr b with
  | .wram i, .wram j => i == j
  | .reg o, .reg o' => o == o'
  | .cart a, .cart b => cartKey a == cartKey b
  | _, _ => false

end Sys2Proof.Machine
end

