-- ==== Sys2Proof/Machine/Dma.lean ====
section
/-! DEFINITION. The eight-channel DMA engine (spec/60_exceptions.md R450-R457), run whole inside the write that triggers it.

Its own writes go through `storeByte`, which lacks the DMA trigger: the PPU-bus address is one of 0x2100-0x21FF and a CPU-bus
address in the register surface raises first, so no write of the engine reaches cell 0x420B (DEDUCED from R453 and R455; log 10). -/

namespace Sys2Proof.Machine

/-- The five grouping patterns, as offsets from BBADn (R453). Patterns 5-7 have none. -/
def dmaOffsets : Nat → List Nat
  | 0 => [0]
  | 1 => [0, 1]
  | 2 => [0, 0]
  | 3 => [0, 0, 1, 1]
  | 4 => [0, 1, 2, 3]
  | _ => []

/-- The PPU-bus address of byte `k` of a transfer (R453): `0x00:(0x2100 + ((BBADn + off[k mod len]) mod 0x100))`. -/
def dmaBAddr (pattern : Nat) (bbad : Byte) (k : Nat) : Addr :=
  let offs := dmaOffsets pattern
  mkAddr 0x00 (mkWord 0x21 (bbad + BitVec.ofNat 8 (offs.getD (k % offs.length) 0)))

/-- The step of the CPU-bus offset (R452): bit 3 fixes it, else bit 4 chooses -1 or +1. -/
def dmaStep (ctl : Byte) : Word :=
  if ctl.getLsbD 3 then 0 else if ctl.getLsbD 4 then 0xFFFF else 1

/-- One byte of a transfer (R455): bit 7 of the control byte chooses which side is read (R454). -/
def dmaByte (n : Nat) (ctl : Byte) (aAddr bAddr : Addr) (s : State) : Res Unit :=
  match decodeAddr aAddr with
  | .reg _ => .raise (.dmaAbusRegister n aAddr s.opAddr) s
  | _ =>
    if ctl.getLsbD 7 then (memRead bAddr s).bind fun v s1 => storeByte aAddr v s1
    else (memRead aAddr s).bind fun v s1 => storeByte bAddr v s1

/-- The bytes of a transfer from byte `k` on, `remaining` of them; the result is the CPU-bus offset after the last (R455). -/
def dmaBytes (n : Nat) (ctl bbad bank : Byte) : (remaining k : Nat) → Word → State → Res Word
  | 0, _, off, s => .ok off s
  | r + 1, k, off, s =>
    (dmaByte n ctl (mkAddr bank off) (dmaBAddr (ctl.toNat % 8) bbad k) s).bind fun _ s1 =>
      dmaBytes n ctl bbad bank r (k + 1) (off + dmaStep ctl) s1

/-- The number of bytes a transfer size stands for (R455; `DMA_ZERO_MEANS_64K`, D25). -/
def dmaCount (size : Word) : Nat :=
  if Config.dmaZeroMeans64K && size == 0 then 0x10000 else size.toNat

/-- The write-back at the end of a channel's transfer (R455, D26): A1Tn holds the next offset, DASn is 0, A1Bn stays. -/
def dmaWriteBack (base : Nat) (off : Word) (s : State) : State :=
  { s with cells :=
      ((((s.cells.write (base + 2) (loByte off)).write (base + 3) (hiByte off)).write (base + 5) 0).write (base + 6) 0) }

/-- `DmaChannel(n)` (R455), with the registers of R451. -/
def dmaChannel (n : Nat) (s : State) : Res Unit :=
  let base := 0x4300 + 0x10 * n
  let ctl := s.cells.read base
  let bbad := s.cells.read (base + 1)
  let off := mkWord (s.cells.read (base + 3)) (s.cells.read (base + 2))
  let bank := s.cells.read (base + 4)
  let size := mkWord (s.cells.read (base + 6)) (s.cells.read (base + 5))
  if 4 < ctl.toNat % 8 then .raise (.dmaPattern n ctl s.opAddr) s
  else (dmaBytes n ctl bbad bank (dmaCount size) 0 off s).bind fun off' s1 => .ok () (dmaWriteBack base off' s1)

/-- The channels of a list that bit `n` of `v` enables, in the list's order. -/
def dmaChannels (v : Byte) : List Nat → State → Res Unit
  | [], s => .ok () s
  | n :: ns, s =>
    if v.getLsbD n then (dmaChannel n s).bind fun _ s1 => dmaChannels v ns s1 else dmaChannels v ns s

/-- `DmaTrigger(v)` (R455): every enabled channel, in ascending order. -/
def dmaTrigger (v : Byte) (s : State) : Res Unit := dmaChannels v [0, 1, 2, 3, 4, 5, 6, 7] s

end Sys2Proof.Machine
end

