-- ==== Sys2Proof/Machine/Ops.lean ====
section
/-! DEFINITION. The named operations over memory and registers: the bus write with its DMA trigger, the width-aware register
accessors, the stack primitives, taking an exception and returning from one, reset, dispatch, and what the host and the
external collaborators do between steps (spec/10_state.md R20-R35; spec/20_memory.md R81, R82, R95-R98;
spec/60_exceptions.md R400-R426, R470-R472; spec/70_reset_and_hazards.md R480). -/

namespace Sys2Proof.Machine

/-- `MemWrite(a, 1, v)` (R81): the store, then, for cell 0x420B, the DMA engine (R82). -/
def memWrite (a : Addr) (v : Byte) (s : State) : Res Unit :=
  (storeByte a v s).bind fun _ s1 =>
    if decodeAddr a = .reg 0x420B then dmaTrigger v s1 else .ok () s1

/-! ### Register accessors -/

/-- The current width of A and of accumulator-class accesses (R23). -/
def State.wM (s : State) : Width := if s.p.m then .w8 else .w16

/-- The current width of X and Y and of index-class accesses (R23). -/
def State.wX (s : State) : Width := if s.p.x then .w8 else .w16

/-- `getA()` (R24). -/
def State.getA (s : State) : Word := trunc s.wM s.a

/-- `setA(v)` (R24): an 8-bit write keeps B. -/
def State.setA (s : State) (v : Word) : State :=
  { s with a := match s.wM with
                | .w8 => mkWord (hiByte s.a) (loByte v)
                | .w16 => v }

/-- `getX()` (R25). -/
def State.getX (s : State) : Word := trunc s.wX s.x

/-- `setX(v)` (R25): an 8-bit write clears XH. -/
def State.setX (s : State) (v : Word) : State := { s with x := trunc s.wX v }

/-- `getY()` (R25). -/
def State.getY (s : State) : Word := trunc s.wX s.y

/-- `setY(v)` (R25): an 8-bit write clears YH. -/
def State.setY (s : State) (v : Word) : State := { s with y := trunc s.wX v }

/-- Every write of S (R28): the high byte is pinned to 0x01 while E = 1. -/
def State.setS (s : State) (v : Word) : State :=
  { s with sp := if s.e then mkWord 0x01 (loByte v) else v }

/-- `setNZ(v, w)` on the state's P (R207). -/
def State.setNZ (s : State) (v : Word) (w : Width) : State := { s with p := s.p.setNZ v w }

/-- The P that `WriteP(v)` writes (R33): M and X stay 1 while E = 1. -/
def State.writtenP (s : State) (v : Byte) : Flags :=
  if s.e then { Flags.ofByte v with m := true, x := true } else Flags.ofByte v

/-- `WriteP(v)` (R33): P is written, and where X is then 1, XH and YH are cleared. -/
def State.writeP (s : State) (v : Byte) : State :=
  { s with p := s.writtenP v
           x := if (s.writtenP v).x then zext8 (loByte s.x) else s.x
           y := if (s.writtenP v).x then zext8 (loByte s.y) else s.y }

/-- E becomes 1 (R31): M and X are forced to 8 bits, XH and YH cleared, SH pinned to 0x01. -/
def State.enterEmulation (s : State) : State :=
  { s with e := true
           p := { s.p with m := true, x := true }
           x := zext8 (loByte s.x)
           y := zext8 (loByte s.y)
           sp := mkWord 0x01 (loByte s.sp) }

/-! ### Stack primitives -/

/-- `push8(v)` (R95). -/
def push8 (v : Byte) (s : State) : Res Unit :=
  (memWrite (mkAddr 0x00 s.sp) v s).bind fun _ s1 => .ok () (s1.setS (s1.sp - 1))

/-- `pop8()` (R96). -/
def pop8 (s : State) : Res Byte :=
  let s1 := s.setS (s.sp + 1)
  memRead (mkAddr 0x00 s1.sp) s1

/-- `push16(v)` (R97): the high byte first, so that the value lies little-endian (R87). -/
def push16 (v : Word) (s : State) : Res Unit :=
  (push8 (hiByte v) s).bind fun _ s1 => push8 (loByte v) s1

/-- `pop16()` (R98): the low byte first. -/
def pop16 (s : State) : Res Word :=
  (pop8 s).bind fun lo s1 => (pop8 s1).bind fun hi s2 => .ok (mkWord hi lo) s2

/-- Push a value of a width: one byte or two (R340-R342). -/
def pushAt (w : Width) (v : Word) (s : State) : Res Unit :=
  match w with
  | .w8 => push8 (loByte v) s
  | .w16 => push16 v s

/-- Pop a value of a width (R350, R351, R353). -/
def popAt (w : Width) (s : State) : Res Word :=
  match w with
  | .w8 => (pop8 s).bind fun b s1 => .ok (zext8 b) s1
  | .w16 => pop16 s

/-! ### Exceptions -/

/-- `VT(k, mode)` (R422), with the mode that E names. -/
def VectorTable.vector (vt : VectorTable) (k : IntKind) (e : Bool) : Word :=
  let column := if e then vt.emulation else vt.native
  match k with
  | .cop => column.cop
  | .brk => column.brk
  | .abort => column.abort
  | .nmi => column.nmi
  | .reset => column.reset
  | .irq => column.irq

/-- The P that entry pushes (R421): in emulation mode bit 4 is 1 for BRK, `COP_EMU_B` for COP and 0 for the others. -/
def pushedP (k : IntKind) (s : State) : Byte :=
  if s.e then
    { s.p with x := match k with
                    | .brk => true
                    | .cop => Config.copEmuB
                    | _ => false }.toByte
  else s.p.toByte

/-- The end of `Enter(k)` (R421): I set, D cleared, K cleared, PC from the vector table. -/
def State.vectorTo (s : State) (k : IntKind) : State :=
  { s with p := { s.p with i := true, d := false }
           k := 0x00
           pc := s.vt.vector k s.e }

/-- `Enter(k)` (R421), taking an exception: push K (native mode only), PC and P, then go to the vector. -/
def enter (k : IntKind) (s : State) : Res Unit :=
  (if s.e then .ok () s else push8 s.k s).bind fun _ s1 =>
    (push16 s1.pc s1).bind fun _ s2 =>
      (push8 (pushedP k s2) s2).bind fun _ s3 => .ok () (s3.vectorTo k)

/-- The return from an exception (R381, R425): P through `WriteP`, then PC, then K in native mode. -/
def returnFromInterrupt (s : State) : Res Unit :=
  (pop8 s).bind fun p s1 =>
    (pop16 (s1.writeP p)).bind fun pc s2 =>
      let s3 := { s2 with pc := pc }
      if s3.e then .ok () s3
      else (pop8 s3).bind fun k s4 => .ok () { s4 with k := k }

/-- `ResetState()` (R480) for a draw. WRAM, Cells, the cartridge, the vector table and `fault` stay. -/
def State.resetState (s : State) (dr : ResetDraw) : State :=
  { s with
    a := dr.a
    x := zext8 dr.xl
    y := zext8 dr.yl
    sp := mkWord 0x01 dr.sl
    d := 0
    dbr := 0
    k := 0
    pc := s.vt.emulation.reset
    p := { n := dr.n, v := dr.v, m := true, x := true, d := false, i := true, z := dr.z, c := dr.c }
    e := true
    mdr := dr.mdr
    pending := none
    waiting := false
    stopped := false }

/-- `ResetState()` with the next free draw (R47, R480; log 3). -/
def State.resetFree (s : State) : State :=
  { s.resetState (Config.resetDraw s.draws) with draws := s.draws + 1 }

/-! ### Interrupt requests and the choice of a step -/

/-- `Dispatchable(k)` (R412). -/
def dispatchable (k : IntKind) (s : State) : Bool :=
  !(decide (k = .irq) && s.p.i && Config.irqRespectsI)

/-- `opAddr <- K:PC`, at the start of a step that acts (R401). -/
def State.noteOpAddr (s : State) : State := { s with opAddr := mkAddr s.k s.pc }

/-- `Dispatch(k)` (R420). -/
def dispatch (k : IntKind) (s : State) : Res Unit :=
  let s1 := { s.noteOpAddr with pending := none, waiting := false }
  match k with
  | .reset => .ok () s1.resetFree
  | .cop => enter .cop s1
  | .brk => enter .brk s1
  | .abort => enter .abort s1
  | .nmi => enter .nmi s1
  | .irq => enter .irq s1

/-- What one step does (R400). -/
inductive Action where
  | idle
  | dispatch (k : IntKind)
  | execute
deriving DecidableEq, Repr

/-- The choice of R400 on a machine with no recorded fault. -/
def nextAction (s : State) : Action :=
  if s.stopped then (if s.pending = some .reset then .dispatch .reset else .idle)
  else
    match s.pending with
    | some k => if dispatchable k s then .dispatch k else if s.waiting then .idle else .execute
    | none => if s.waiting then .idle else .execute

/-! ### The host and the external collaborators, between steps -/

/-- A register cell that external collaborators may write (R470): not 0x420B, not 0x4300-0x437F. -/
def isSharedCell (o : Nat) : Bool :=
  isCellOffset o && decide (o ≠ 0x420B) && !decide (0x4300 ≤ o ∧ o ≤ 0x437F)

/-- What other agents do between two steps (R470). -/
inductive HostEvent where
  | setRequest (k : IntKind)
  | reset
  | writeCell (o : Nat) (v : Byte)
deriving DecidableEq, Repr

/-- `set(kind)` (R410): the last request wins. -/
def State.setRequest (s : State) (k : IntKind) : State := { s with pending := some k }

/-- The host's `reset()` (R471): at once, even on a stopped machine; a recorded fault stays. -/
def State.hostReset (s : State) : State := { s with pending := none, waiting := false }.resetFree

/-- A collaborator writes a register cell (R470): no DMA, MDR unchanged; it cannot write the core's own cells. -/
def State.writeCell (s : State) (o : Nat) (v : Byte) : State :=
  if isSharedCell o then { s with cells := s.cells.write o v } else s

/-- A collaborator reads a register cell (R470): no effect. -/
def State.readCell (s : State) (o : Nat) : Byte := s.cells.read o

/-- The state after an operation of another agent. -/
def HostEvent.apply (ev : HostEvent) (s : State) : State :=
  match ev with
  | .setRequest k => s.setRequest k
  | .reset => s.hostReset
  | .writeCell o v => s.writeCell o v

end Sys2Proof.Machine
end

