-- ==== Sys2Proof/Syntax.lean ====
section
/-! DEFINITION. The instructions: one constructor for each of the 256 rows of spec/opcode_table.json (spec/30_encoding.md
R127, R128), with the operands its addressing mode gives it (R123). -/

namespace Sys2Proof

/-- An immediate operand, whose length follows P.M or P.X at decode time (R124). -/
inductive Imm where
  | b (v : Byte)
  | w (v : Word)
deriving DecidableEq, Repr

/-- The 92 mnemonics of R128. -/
inductive Mnemonic where
  | lda | ldx | ldy | sta | stx | sty | stz | tax | tay | txa | tya | txy
  | tyx | tsx | txs | tcs | tsc | tcd | tdc | xba | mvn | mvp | adc | sbc
  | cmp | cpx | cpy | inc | dec | inx | iny | dex | dey | and | ora | eor
  | bit | tsb | trb | asl | lsr | rol | ror | bpl | bmi | bvc | bvs | bcc
  | bcs | bne | beq | bra | brl | jmp | jml | jsr | jsl | rts | rtl | pha
  | phx | phy | php | phb | phk | phd | pea | pei | per | pla | plx | plp
  | ply | plb | pld | clc | sec | cli | sei | cld | rep | sep | sed | clv
  | xce | brk | rti | cop | wai | stp | nop | wdm
deriving DecidableEq, Repr

/-- The 31 addressing modes of R123. -/
inductive Mode where
  | imp | acc | immM | immX | imm8 | sig | imm16 | dp | dpX | dpY | dpInd | dpIndX
  | dpIndY | dpIndL | dpIndLY | peiDp | abs | absX | absY | long | longX | sr | srIndY | rel8
  | rel16 | absJ | longJ | absInd | absIndX | absIndL | blk
deriving DecidableEq, Repr

/-- The instructions. Operand names: `o` a direct-page or stack offset, `a16` and `a24` addresses, `r` and `r16` displacements,
`dbk` and `sbk` the banks of a block move, `sig` a signature byte. Each line names the opcode and the instruction's rule. The
rows with operand bytes come first, so that Lean's compiler can number them. -/
inductive Instr where
  | ldaDpIndX (o : Byte)          -- A1 LDA dpIndX, R200
  | ldaSr (o : Byte)              -- A3 LDA sr, R200
  | ldaDp (o : Byte)              -- A5 LDA dp, R200
  | ldaDpIndL (o : Byte)          -- A7 LDA dpIndL, R200
  | ldaImmM (v : Imm)             -- A9 LDA immM, R200
  | ldaAbs (a16 : Word)           -- AD LDA abs, R200
  | ldaLong (a24 : Addr)          -- AF LDA long, R200
  | ldaDpIndY (o : Byte)          -- B1 LDA dpIndY, R200
  | ldaDpInd (o : Byte)           -- B2 LDA dpInd, R200
  | ldaSrIndY (o : Byte)          -- B3 LDA srIndY, R200
  | ldaDpX (o : Byte)             -- B5 LDA dpX, R200
  | ldaDpIndLY (o : Byte)         -- B7 LDA dpIndLY, R200
  | ldaAbsY (a16 : Word)          -- B9 LDA absY, R200
  | ldaAbsX (a16 : Word)          -- BD LDA absX, R200
  | ldaLongX (a24 : Addr)         -- BF LDA longX, R200
  | ldxImmX (v : Imm)             -- A2 LDX immX, R201
  | ldxDp (o : Byte)              -- A6 LDX dp, R201
  | ldxAbs (a16 : Word)           -- AE LDX abs, R201
  | ldxDpY (o : Byte)             -- B6 LDX dpY, R201
  | ldxAbsY (a16 : Word)          -- BE LDX absY, R201
  | ldyImmX (v : Imm)             -- A0 LDY immX, R202
  | ldyDp (o : Byte)              -- A4 LDY dp, R202
  | ldyAbs (a16 : Word)           -- AC LDY abs, R202
  | ldyDpX (o : Byte)             -- B4 LDY dpX, R202
  | ldyAbsX (a16 : Word)          -- BC LDY absX, R202
  | staDpIndX (o : Byte)          -- 81 STA dpIndX, R203
  | staSr (o : Byte)              -- 83 STA sr, R203
  | staDp (o : Byte)              -- 85 STA dp, R203
  | staDpIndL (o : Byte)          -- 87 STA dpIndL, R203
  | staAbs (a16 : Word)           -- 8D STA abs, R203
  | staLong (a24 : Addr)          -- 8F STA long, R203
  | staDpIndY (o : Byte)          -- 91 STA dpIndY, R203
  | staDpInd (o : Byte)           -- 92 STA dpInd, R203
  | staSrIndY (o : Byte)          -- 93 STA srIndY, R203
  | staDpX (o : Byte)             -- 95 STA dpX, R203
  | staDpIndLY (o : Byte)         -- 97 STA dpIndLY, R203
  | staAbsY (a16 : Word)          -- 99 STA absY, R203
  | staAbsX (a16 : Word)          -- 9D STA absX, R203
  | staLongX (a24 : Addr)         -- 9F STA longX, R203
  | stxDp (o : Byte)              -- 86 STX dp, R204
  | stxAbs (a16 : Word)           -- 8E STX abs, R204
  | stxDpY (o : Byte)             -- 96 STX dpY, R204
  | styDp (o : Byte)              -- 84 STY dp, R205
  | styAbs (a16 : Word)           -- 8C STY abs, R205
  | styDpX (o : Byte)             -- 94 STY dpX, R205
  | stzDp (o : Byte)              -- 64 STZ dp, R206
  | stzDpX (o : Byte)             -- 74 STZ dpX, R206
  | stzAbs (a16 : Word)           -- 9C STZ abs, R206
  | stzAbsX (a16 : Word)          -- 9E STZ absX, R206
  | mvn (dbk : Byte) (sbk : Byte) -- 54 MVN blk, R225
  | mvp (dbk : Byte) (sbk : Byte) -- 44 MVP blk, R226
  | adcDpIndX (o : Byte)          -- 61 ADC dpIndX, R251
  | adcSr (o : Byte)              -- 63 ADC sr, R251
  | adcDp (o : Byte)              -- 65 ADC dp, R251
  | adcDpIndL (o : Byte)          -- 67 ADC dpIndL, R251
  | adcImmM (v : Imm)             -- 69 ADC immM, R251
  | adcAbs (a16 : Word)           -- 6D ADC abs, R251
  | adcLong (a24 : Addr)          -- 6F ADC long, R251
  | adcDpIndY (o : Byte)          -- 71 ADC dpIndY, R251
  | adcDpInd (o : Byte)           -- 72 ADC dpInd, R251
  | adcSrIndY (o : Byte)          -- 73 ADC srIndY, R251
  | adcDpX (o : Byte)             -- 75 ADC dpX, R251
  | adcDpIndLY (o : Byte)         -- 77 ADC dpIndLY, R251
  | adcAbsY (a16 : Word)          -- 79 ADC absY, R251
  | adcAbsX (a16 : Word)          -- 7D ADC absX, R251
  | adcLongX (a24 : Addr)         -- 7F ADC longX, R251
  | sbcDpIndX (o : Byte)          -- E1 SBC dpIndX, R252
  | sbcSr (o : Byte)              -- E3 SBC sr, R252
  | sbcDp (o : Byte)              -- E5 SBC dp, R252
  | sbcDpIndL (o : Byte)          -- E7 SBC dpIndL, R252
  | sbcImmM (v : Imm)             -- E9 SBC immM, R252
  | sbcAbs (a16 : Word)           -- ED SBC abs, R252
  | sbcLong (a24 : Addr)          -- EF SBC long, R252
  | sbcDpIndY (o : Byte)          -- F1 SBC dpIndY, R252
  | sbcDpInd (o : Byte)           -- F2 SBC dpInd, R252
  | sbcSrIndY (o : Byte)          -- F3 SBC srIndY, R252
  | sbcDpX (o : Byte)             -- F5 SBC dpX, R252
  | sbcDpIndLY (o : Byte)         -- F7 SBC dpIndLY, R252
  | sbcAbsY (a16 : Word)          -- F9 SBC absY, R252
  | sbcAbsX (a16 : Word)          -- FD SBC absX, R252
  | sbcLongX (a24 : Addr)         -- FF SBC longX, R252
  | cmpDpIndX (o : Byte)          -- C1 CMP dpIndX, R253
  | cmpSr (o : Byte)              -- C3 CMP sr, R253
  | cmpDp (o : Byte)              -- C5 CMP dp, R253
  | cmpDpIndL (o : Byte)          -- C7 CMP dpIndL, R253
  | cmpImmM (v : Imm)             -- C9 CMP immM, R253
  | cmpAbs (a16 : Word)           -- CD CMP abs, R253
  | cmpLong (a24 : Addr)          -- CF CMP long, R253
  | cmpDpIndY (o : Byte)          -- D1 CMP dpIndY, R253
  | cmpDpInd (o : Byte)           -- D2 CMP dpInd, R253
  | cmpSrIndY (o : Byte)          -- D3 CMP srIndY, R253
  | cmpDpX (o : Byte)             -- D5 CMP dpX, R253
  | cmpDpIndLY (o : Byte)         -- D7 CMP dpIndLY, R253
  | cmpAbsY (a16 : Word)          -- D9 CMP absY, R253
  | cmpAbsX (a16 : Word)          -- DD CMP absX, R253
  | cmpLongX (a24 : Addr)         -- DF CMP longX, R253
  | cpxImmX (v : Imm)             -- E0 CPX immX, R254
  | cpxDp (o : Byte)              -- E4 CPX dp, R254
  | cpxAbs (a16 : Word)           -- EC CPX abs, R254
  | cpyImmX (v : Imm)             -- C0 CPY immX, R255
  | cpyDp (o : Byte)              -- C4 CPY dp, R255
  | cpyAbs (a16 : Word)           -- CC CPY abs, R255
  | incDp (o : Byte)              -- E6 INC dp, R256
  | incAbs (a16 : Word)           -- EE INC abs, R256
  | incDpX (o : Byte)             -- F6 INC dpX, R256
  | incAbsX (a16 : Word)          -- FE INC absX, R256
  | decDp (o : Byte)              -- C6 DEC dp, R257
  | decAbs (a16 : Word)           -- CE DEC abs, R257
  | decDpX (o : Byte)             -- D6 DEC dpX, R257
  | decAbsX (a16 : Word)          -- DE DEC absX, R257
  | andDpIndX (o : Byte)          -- 21 AND dpIndX, R262
  | andSr (o : Byte)              -- 23 AND sr, R262
  | andDp (o : Byte)              -- 25 AND dp, R262
  | andDpIndL (o : Byte)          -- 27 AND dpIndL, R262
  | andImmM (v : Imm)             -- 29 AND immM, R262
  | andAbs (a16 : Word)           -- 2D AND abs, R262
  | andLong (a24 : Addr)          -- 2F AND long, R262
  | andDpIndY (o : Byte)          -- 31 AND dpIndY, R262
  | andDpInd (o : Byte)           -- 32 AND dpInd, R262
  | andSrIndY (o : Byte)          -- 33 AND srIndY, R262
  | andDpX (o : Byte)             -- 35 AND dpX, R262
  | andDpIndLY (o : Byte)         -- 37 AND dpIndLY, R262
  | andAbsY (a16 : Word)          -- 39 AND absY, R262
  | andAbsX (a16 : Word)          -- 3D AND absX, R262
  | andLongX (a24 : Addr)         -- 3F AND longX, R262
  | oraDpIndX (o : Byte)          -- 01 ORA dpIndX, R263
  | oraSr (o : Byte)              -- 03 ORA sr, R263
  | oraDp (o : Byte)              -- 05 ORA dp, R263
  | oraDpIndL (o : Byte)          -- 07 ORA dpIndL, R263
  | oraImmM (v : Imm)             -- 09 ORA immM, R263
  | oraAbs (a16 : Word)           -- 0D ORA abs, R263
  | oraLong (a24 : Addr)          -- 0F ORA long, R263
  | oraDpIndY (o : Byte)          -- 11 ORA dpIndY, R263
  | oraDpInd (o : Byte)           -- 12 ORA dpInd, R263
  | oraSrIndY (o : Byte)          -- 13 ORA srIndY, R263
  | oraDpX (o : Byte)             -- 15 ORA dpX, R263
  | oraDpIndLY (o : Byte)         -- 17 ORA dpIndLY, R263
  | oraAbsY (a16 : Word)          -- 19 ORA absY, R263
  | oraAbsX (a16 : Word)          -- 1D ORA absX, R263
  | oraLongX (a24 : Addr)         -- 1F ORA longX, R263
  | eorDpIndX (o : Byte)          -- 41 EOR dpIndX, R264
  | eorSr (o : Byte)              -- 43 EOR sr, R264
  | eorDp (o : Byte)              -- 45 EOR dp, R264
  | eorDpIndL (o : Byte)          -- 47 EOR dpIndL, R264
  | eorImmM (v : Imm)             -- 49 EOR immM, R264
  | eorAbs (a16 : Word)           -- 4D EOR abs, R264
  | eorLong (a24 : Addr)          -- 4F EOR long, R264
  | eorDpIndY (o : Byte)          -- 51 EOR dpIndY, R264
  | eorDpInd (o : Byte)           -- 52 EOR dpInd, R264
  | eorSrIndY (o : Byte)          -- 53 EOR srIndY, R264
  | eorDpX (o : Byte)             -- 55 EOR dpX, R264
  | eorDpIndLY (o : Byte)         -- 57 EOR dpIndLY, R264
  | eorAbsY (a16 : Word)          -- 59 EOR absY, R264
  | eorAbsX (a16 : Word)          -- 5D EOR absX, R264
  | eorLongX (a24 : Addr)         -- 5F EOR longX, R264
  | bitDp (o : Byte)              -- 24 BIT dp, R265
  | bitAbs (a16 : Word)           -- 2C BIT abs, R265
  | bitDpX (o : Byte)             -- 34 BIT dpX, R265
  | bitAbsX (a16 : Word)          -- 3C BIT absX, R265
  | bitImmM (v : Imm)             -- 89 BIT immM, R265
  | tsbDp (o : Byte)              -- 04 TSB dp, R266
  | tsbAbs (a16 : Word)           -- 0C TSB abs, R266
  | trbDp (o : Byte)              -- 14 TRB dp, R267
  | trbAbs (a16 : Word)           -- 1C TRB abs, R267
  | aslDp (o : Byte)              -- 06 ASL dp, R268
  | aslAbs (a16 : Word)           -- 0E ASL abs, R268
  | aslDpX (o : Byte)             -- 16 ASL dpX, R268
  | aslAbsX (a16 : Word)          -- 1E ASL absX, R268
  | lsrDp (o : Byte)              -- 46 LSR dp, R269
  | lsrAbs (a16 : Word)           -- 4E LSR abs, R269
  | lsrDpX (o : Byte)             -- 56 LSR dpX, R269
  | lsrAbsX (a16 : Word)          -- 5E LSR absX, R269
  | rolDp (o : Byte)              -- 26 ROL dp, R270
  | rolAbs (a16 : Word)           -- 2E ROL abs, R270
  | rolDpX (o : Byte)             -- 36 ROL dpX, R270
  | rolAbsX (a16 : Word)          -- 3E ROL absX, R270
  | rorDp (o : Byte)              -- 66 ROR dp, R271
  | rorAbs (a16 : Word)           -- 6E ROR abs, R271
  | rorDpX (o : Byte)             -- 76 ROR dpX, R271
  | rorAbsX (a16 : Word)          -- 7E ROR absX, R271
  | bpl (r : Byte)                -- 10 BPL rel8, R301
  | bmi (r : Byte)                -- 30 BMI rel8, R302
  | bvc (r : Byte)                -- 50 BVC rel8, R303
  | bvs (r : Byte)                -- 70 BVS rel8, R304
  | bcc (r : Byte)                -- 90 BCC rel8, R305
  | bcs (r : Byte)                -- B0 BCS rel8, R306
  | bne (r : Byte)                -- D0 BNE rel8, R307
  | beq (r : Byte)                -- F0 BEQ rel8, R308
  | bra (r : Byte)                -- 80 BRA rel8, R309
  | brl (r16 : Word)              -- 82 BRL rel16, R310
  | jmpAbsJ (a16 : Word)          -- 4C JMP absJ, R311
  | jmpAbsInd (a16 : Word)        -- 6C JMP absInd, R311
  | jmpAbsIndX (a16 : Word)       -- 7C JMP absIndX, R311
  | jmlLongJ (a24 : Addr)         -- 5C JML longJ, R312
  | jmlAbsIndL (a16 : Word)       -- DC JML absIndL, R312
  | jsrAbsJ (a16 : Word)          -- 20 JSR absJ, R313
  | jsrAbsIndX (a16 : Word)       -- FC JSR absIndX, R313
  | jsl (a24 : Addr)              -- 22 JSL longJ, R314
  | pea (v : Word)                -- F4 PEA imm16, R347
  | pei (o : Byte)                -- D4 PEI peiDp, R348
  | per (r16 : Word)              -- 62 PER rel16, R349
  | rep (mask : Byte)             -- C2 REP imm8, R365
  | sep (mask : Byte)             -- E2 SEP imm8, R366
  | brk (sig : Byte)              -- 00 BRK sig, R380
  | cop (sig : Byte)              -- 02 COP sig, R382
  | wdm (sig : Byte)              -- 42 WDM sig, R386
  | tax                           -- AA TAX imp, R210
  | tay                           -- A8 TAY imp, R211
  | txa                           -- 8A TXA imp, R212
  | tya                           -- 98 TYA imp, R213
  | txy                           -- 9B TXY imp, R214
  | tyx                           -- BB TYX imp, R215
  | tsx                           -- BA TSX imp, R216
  | txs                           -- 9A TXS imp, R217
  | tcs                           -- 1B TCS imp, R218
  | tsc                           -- 3B TSC imp, R219
  | tcd                           -- 5B TCD imp, R220
  | tdc                           -- 7B TDC imp, R221
  | xba                           -- EB XBA imp, R222
  | incAcc                        -- 1A INC acc, R256
  | decAcc                        -- 3A DEC acc, R257
  | inx                           -- E8 INX imp, R258
  | iny                           -- C8 INY imp, R259
  | dex                           -- CA DEX imp, R260
  | dey                           -- 88 DEY imp, R261
  | aslAcc                        -- 0A ASL acc, R268
  | lsrAcc                        -- 4A LSR acc, R269
  | rolAcc                        -- 2A ROL acc, R270
  | rorAcc                        -- 6A ROR acc, R271
  | rts                           -- 60 RTS imp, R315
  | rtl                           -- 6B RTL imp, R316
  | pha                           -- 48 PHA imp, R340
  | phx                           -- DA PHX imp, R341
  | phy                           -- 5A PHY imp, R342
  | php                           -- 08 PHP imp, R343
  | phb                           -- 8B PHB imp, R344
  | phk                           -- 4B PHK imp, R345
  | phd                           -- 0B PHD imp, R346
  | pla                           -- 68 PLA imp, R350
  | plx                           -- FA PLX imp, R351
  | plp                           -- 28 PLP imp, R352
  | ply                           -- 7A PLY imp, R353
  | plb                           -- AB PLB imp, R354
  | pld                           -- 2B PLD imp, R355
  | clc                           -- 18 CLC imp, R360
  | sec                           -- 38 SEC imp, R361
  | cli                           -- 58 CLI imp, R362
  | sei                           -- 78 SEI imp, R363
  | cld                           -- D8 CLD imp, R364
  | sed                           -- F8 SED imp, R367
  | clv                           -- B8 CLV imp, R368
  | xce                           -- FB XCE imp, R370
  | rti                           -- 40 RTI imp, R381
  | wai                           -- CB WAI imp, R383
  | stp                           -- DB STP imp, R384
  | nop                           -- EA NOP imp, R385
deriving DecidableEq, Repr

/-- The mnemonic of an instruction (R128). -/
def Instr.mnemonic (i : Instr) : Mnemonic :=
  match i with
  | .ldaDpIndX _ | .ldaSr _ | .ldaDp _ | .ldaDpIndL _ | .ldaImmM _ | .ldaAbs _ | .ldaLong _ | .ldaDpIndY _
  | .ldaDpInd _ | .ldaSrIndY _ | .ldaDpX _ | .ldaDpIndLY _ | .ldaAbsY _ | .ldaAbsX _ | .ldaLongX _ => .lda
  | .ldxImmX _ | .ldxDp _ | .ldxAbs _ | .ldxDpY _ | .ldxAbsY _ => .ldx
  | .ldyImmX _ | .ldyDp _ | .ldyAbs _ | .ldyDpX _ | .ldyAbsX _ => .ldy
  | .staDpIndX _ | .staSr _ | .staDp _ | .staDpIndL _ | .staAbs _ | .staLong _ | .staDpIndY _ | .staDpInd _
  | .staSrIndY _ | .staDpX _ | .staDpIndLY _ | .staAbsY _ | .staAbsX _ | .staLongX _ => .sta
  | .stxDp _ | .stxAbs _ | .stxDpY _ => .stx
  | .styDp _ | .styAbs _ | .styDpX _ => .sty
  | .stzDp _ | .stzDpX _ | .stzAbs _ | .stzAbsX _ => .stz
  | .tax => .tax
  | .tay => .tay
  | .txa => .txa
  | .tya => .tya
  | .txy => .txy
  | .tyx => .tyx
  | .tsx => .tsx
  | .txs => .txs
  | .tcs => .tcs
  | .tsc => .tsc
  | .tcd => .tcd
  | .tdc => .tdc
  | .xba => .xba
  | .mvn _ _ => .mvn
  | .mvp _ _ => .mvp
  | .adcDpIndX _ | .adcSr _ | .adcDp _ | .adcDpIndL _ | .adcImmM _ | .adcAbs _ | .adcLong _ | .adcDpIndY _
  | .adcDpInd _ | .adcSrIndY _ | .adcDpX _ | .adcDpIndLY _ | .adcAbsY _ | .adcAbsX _ | .adcLongX _ => .adc
  | .sbcDpIndX _ | .sbcSr _ | .sbcDp _ | .sbcDpIndL _ | .sbcImmM _ | .sbcAbs _ | .sbcLong _ | .sbcDpIndY _
  | .sbcDpInd _ | .sbcSrIndY _ | .sbcDpX _ | .sbcDpIndLY _ | .sbcAbsY _ | .sbcAbsX _ | .sbcLongX _ => .sbc
  | .cmpDpIndX _ | .cmpSr _ | .cmpDp _ | .cmpDpIndL _ | .cmpImmM _ | .cmpAbs _ | .cmpLong _ | .cmpDpIndY _
  | .cmpDpInd _ | .cmpSrIndY _ | .cmpDpX _ | .cmpDpIndLY _ | .cmpAbsY _ | .cmpAbsX _ | .cmpLongX _ => .cmp
  | .cpxImmX _ | .cpxDp _ | .cpxAbs _ => .cpx
  | .cpyImmX _ | .cpyDp _ | .cpyAbs _ => .cpy
  | .incAcc | .incDp _ | .incAbs _ | .incDpX _ | .incAbsX _ => .inc
  | .decAcc | .decDp _ | .decAbs _ | .decDpX _ | .decAbsX _ => .dec
  | .inx => .inx
  | .iny => .iny
  | .dex => .dex
  | .dey => .dey
  | .andDpIndX _ | .andSr _ | .andDp _ | .andDpIndL _ | .andImmM _ | .andAbs _ | .andLong _ | .andDpIndY _
  | .andDpInd _ | .andSrIndY _ | .andDpX _ | .andDpIndLY _ | .andAbsY _ | .andAbsX _ | .andLongX _ => .and
  | .oraDpIndX _ | .oraSr _ | .oraDp _ | .oraDpIndL _ | .oraImmM _ | .oraAbs _ | .oraLong _ | .oraDpIndY _
  | .oraDpInd _ | .oraSrIndY _ | .oraDpX _ | .oraDpIndLY _ | .oraAbsY _ | .oraAbsX _ | .oraLongX _ => .ora
  | .eorDpIndX _ | .eorSr _ | .eorDp _ | .eorDpIndL _ | .eorImmM _ | .eorAbs _ | .eorLong _ | .eorDpIndY _
  | .eorDpInd _ | .eorSrIndY _ | .eorDpX _ | .eorDpIndLY _ | .eorAbsY _ | .eorAbsX _ | .eorLongX _ => .eor
  | .bitDp _ | .bitAbs _ | .bitDpX _ | .bitAbsX _ | .bitImmM _ => .bit
  | .tsbDp _ | .tsbAbs _ => .tsb
  | .trbDp _ | .trbAbs _ => .trb
  | .aslDp _ | .aslAcc | .aslAbs _ | .aslDpX _ | .aslAbsX _ => .asl
  | .lsrDp _ | .lsrAcc | .lsrAbs _ | .lsrDpX _ | .lsrAbsX _ => .lsr
  | .rolDp _ | .rolAcc | .rolAbs _ | .rolDpX _ | .rolAbsX _ => .rol
  | .rorDp _ | .rorAcc | .rorAbs _ | .rorDpX _ | .rorAbsX _ => .ror
  | .bpl _ => .bpl
  | .bmi _ => .bmi
  | .bvc _ => .bvc
  | .bvs _ => .bvs
  | .bcc _ => .bcc
  | .bcs _ => .bcs
  | .bne _ => .bne
  | .beq _ => .beq
  | .bra _ => .bra
  | .brl _ => .brl
  | .jmpAbsJ _ | .jmpAbsInd _ | .jmpAbsIndX _ => .jmp
  | .jmlLongJ _ | .jmlAbsIndL _ => .jml
  | .jsrAbsJ _ | .jsrAbsIndX _ => .jsr
  | .jsl _ => .jsl
  | .rts => .rts
  | .rtl => .rtl
  | .pha => .pha
  | .phx => .phx
  | .phy => .phy
  | .php => .php
  | .phb => .phb
  | .phk => .phk
  | .phd => .phd
  | .pea _ => .pea
  | .pei _ => .pei
  | .per _ => .per
  | .pla => .pla
  | .plx => .plx
  | .plp => .plp
  | .ply => .ply
  | .plb => .plb
  | .pld => .pld
  | .clc => .clc
  | .sec => .sec
  | .cli => .cli
  | .sei => .sei
  | .cld => .cld
  | .rep _ => .rep
  | .sep _ => .sep
  | .sed => .sed
  | .clv => .clv
  | .xce => .xce
  | .brk _ => .brk
  | .rti => .rti
  | .cop _ => .cop
  | .wai => .wai
  | .stp => .stp
  | .nop => .nop
  | .wdm _ => .wdm

/-- The addressing mode of an instruction (R128). -/
def Instr.mode (i : Instr) : Mode :=
  match i with
  | .tax | .tay | .txa | .tya | .txy | .tyx | .tsx | .txs | .tcs | .tsc | .tcd | .tdc | .xba | .inx | .iny | .dex
  | .dey | .rts | .rtl | .pha | .phx | .phy | .php | .phb | .phk | .phd | .pla | .plx | .plp | .ply | .plb | .pld
  | .clc | .sec | .cli | .sei | .cld | .sed | .clv | .xce | .rti | .wai | .stp | .nop => .imp
  | .incAcc | .decAcc | .aslAcc | .lsrAcc | .rolAcc | .rorAcc => .acc
  | .ldaImmM _ | .adcImmM _ | .sbcImmM _ | .cmpImmM _ | .andImmM _ | .oraImmM _ | .eorImmM _ | .bitImmM _ => .immM
  | .ldxImmX _ | .ldyImmX _ | .cpxImmX _ | .cpyImmX _ => .immX
  | .rep _ | .sep _ => .imm8
  | .brk _ | .cop _ | .wdm _ => .sig
  | .pea _ => .imm16
  | .ldaDp _ | .ldxDp _ | .ldyDp _ | .staDp _ | .stxDp _ | .styDp _ | .stzDp _ | .adcDp _ | .sbcDp _ | .cmpDp _
  | .cpxDp _ | .cpyDp _ | .incDp _ | .decDp _ | .andDp _ | .oraDp _ | .eorDp _ | .bitDp _ | .tsbDp _ | .trbDp _
  | .aslDp _ | .lsrDp _ | .rolDp _ | .rorDp _ => .dp
  | .ldaDpX _ | .ldyDpX _ | .staDpX _ | .styDpX _ | .stzDpX _ | .adcDpX _ | .sbcDpX _ | .cmpDpX _ | .incDpX _
  | .decDpX _ | .andDpX _ | .oraDpX _ | .eorDpX _ | .bitDpX _ | .aslDpX _ | .lsrDpX _ | .rolDpX _ | .rorDpX _ => .dpX
  | .ldxDpY _ | .stxDpY _ => .dpY
  | .ldaDpInd _ | .staDpInd _ | .adcDpInd _ | .sbcDpInd _ | .cmpDpInd _ | .andDpInd _ | .oraDpInd _ | .eorDpInd _ => .dpInd
  | .ldaDpIndX _ | .staDpIndX _ | .adcDpIndX _ | .sbcDpIndX _ | .cmpDpIndX _ | .andDpIndX _ | .oraDpIndX _
  | .eorDpIndX _ => .dpIndX
  | .ldaDpIndY _ | .staDpIndY _ | .adcDpIndY _ | .sbcDpIndY _ | .cmpDpIndY _ | .andDpIndY _ | .oraDpIndY _
  | .eorDpIndY _ => .dpIndY
  | .ldaDpIndL _ | .staDpIndL _ | .adcDpIndL _ | .sbcDpIndL _ | .cmpDpIndL _ | .andDpIndL _ | .oraDpIndL _
  | .eorDpIndL _ => .dpIndL
  | .ldaDpIndLY _ | .staDpIndLY _ | .adcDpIndLY _ | .sbcDpIndLY _ | .cmpDpIndLY _ | .andDpIndLY _ | .oraDpIndLY _
  | .eorDpIndLY _ => .dpIndLY
  | .pei _ => .peiDp
  | .ldaAbs _ | .ldxAbs _ | .ldyAbs _ | .staAbs _ | .stxAbs _ | .styAbs _ | .stzAbs _ | .adcAbs _ | .sbcAbs _
  | .cmpAbs _ | .cpxAbs _ | .cpyAbs _ | .incAbs _ | .decAbs _ | .andAbs _ | .oraAbs _ | .eorAbs _ | .bitAbs _
  | .tsbAbs _ | .trbAbs _ | .aslAbs _ | .lsrAbs _ | .rolAbs _ | .rorAbs _ => .abs
  | .ldaAbsX _ | .ldyAbsX _ | .staAbsX _ | .stzAbsX _ | .adcAbsX _ | .sbcAbsX _ | .cmpAbsX _ | .incAbsX _
  | .decAbsX _ | .andAbsX _ | .oraAbsX _ | .eorAbsX _ | .bitAbsX _ | .aslAbsX _ | .lsrAbsX _ | .rolAbsX _
  | .rorAbsX _ => .absX
  | .ldaAbsY _ | .ldxAbsY _ | .staAbsY _ | .adcAbsY _ | .sbcAbsY _ | .cmpAbsY _ | .andAbsY _ | .oraAbsY _
  | .eorAbsY _ => .absY
  | .ldaLong _ | .staLong _ | .adcLong _ | .sbcLong _ | .cmpLong _ | .andLong _ | .oraLong _ | .eorLong _ => .long
  | .ldaLongX _ | .staLongX _ | .adcLongX _ | .sbcLongX _ | .cmpLongX _ | .andLongX _ | .oraLongX _ | .eorLongX _ => .longX
  | .ldaSr _ | .staSr _ | .adcSr _ | .sbcSr _ | .cmpSr _ | .andSr _ | .oraSr _ | .eorSr _ => .sr
  | .ldaSrIndY _ | .staSrIndY _ | .adcSrIndY _ | .sbcSrIndY _ | .cmpSrIndY _ | .andSrIndY _ | .oraSrIndY _
  | .eorSrIndY _ => .srIndY
  | .bpl _ | .bmi _ | .bvc _ | .bvs _ | .bcc _ | .bcs _ | .bne _ | .beq _ | .bra _ => .rel8
  | .brl _ | .per _ => .rel16
  | .jmpAbsJ _ | .jsrAbsJ _ => .absJ
  | .jmlLongJ _ | .jsl _ => .longJ
  | .jmpAbsInd _ => .absInd
  | .jmpAbsIndX _ | .jsrAbsIndX _ => .absIndX
  | .jmlAbsIndL _ => .absIndL
  | .mvn _ _ | .mvp _ _ => .blk

end Sys2Proof
end

