-- ==== Sys2Proof/Machine/Operands.lean ====
section
/-! DEFINITION. The addressing-mode resolver: every operand form of spec/40_addressing.md (R150-R186). -/

namespace Sys2Proof.Machine

/-- Where the bytes after the first lie (R151). -/
inductive Wrap where
  | lin
  | bank (b : Byte)
  | dpPage
deriving DecidableEq, Repr

/-- An effective-address record (R151). -/
structure EA where
  base : Addr
  wrap : Wrap
deriving DecidableEq, Repr

/-- `byteAddr(ea, k)` (R152). -/
def EA.byteAddr (ea : EA) (k : Nat) : Addr :=
  match ea.wrap with
  | .lin => ea.base + BitVec.ofNat 24 k
  | .bank b => mkAddr b (offOf ea.base + BitVec.ofNat 16 k)
  | .dpPage => mkAddr 0x00 (mkWord (hiByte (offOf ea.base)) (loByte (offOf ea.base) + BitVec.ofNat 8 k))

/-- `ReadN` from byte `k` on, `n` bytes, in ascending order (R152). -/
def readFrom (ea : EA) : (k n : Nat) → State → Res Addr
  | _, 0, s => .ok 0 s
  | k, n + 1, s =>
    (memRead (ea.byteAddr k) s).bind fun b s1 =>
      (readFrom ea (k + 1) n s1).bind fun rest s2 => .ok ((rest <<< 8) ||| b.setWidth 24) s2

/-- `ReadN(ea, n)` (R152): the bytes little-endian (R85), in a 24-bit value. -/
def readN (ea : EA) (n : Nat) (s : State) : Res Addr := readFrom ea 0 n s

/-- `WriteN` from byte `k` on, `n` bytes of `v`, in ascending order (R152). -/
def writeFrom (ea : EA) : (k n : Nat) → Word → State → Res Unit
  | _, 0, _, s => .ok () s
  | k, n + 1, v, s =>
    (memWrite (ea.byteAddr k) (loByte v) s).bind fun _ s1 => writeFrom ea (k + 1) n (v >>> 8) s1

/-- `WriteN(ea, n, v)` (R152). -/
def writeN (ea : EA) (n : Nat) (v : Word) (s : State) : Res Unit := writeFrom ea 0 n v s

/-- `ReadN(ea, 2)` as a 16-bit value. -/
def readWord (ea : EA) (s : State) : Res Word :=
  (readN ea 2 s).bind fun v s1 => .ok (offOf v) s1

/-- `DP(o)` (R155). -/
def dpAddr (o : Word) (s : State) : EA :=
  if s.e && loByte s.d == 0 then { base := mkAddr 0x00 (mkWord (hiByte s.d) (loByte o)), wrap := .dpPage }
  else { base := mkAddr 0x00 (s.d + o), wrap := .bank 0x00 }

/-- `DBR : off` with the wrap class `Lin` (R160). -/
def absAddr (off : Word) (s : State) : EA := { base := mkAddr s.dbr off, wrap := .lin }

/-- An effective address plus an index, which carries into the bank (R161, R184). -/
def EA.plus (ea : EA) (index : Word) : EA := { ea with base := ea.base + index.setWidth 24 }

/-- `0x00 : ((S + o) mod 0x10000)`, within bank 0 (R170). -/
def srAddr (o : Byte) (s : State) : EA := { base := mkAddr 0x00 (s.sp + zext8 o), wrap := .bank 0x00 }

/-- A 16-bit pointer, read and combined with DBR (R165). -/
def pointerAddr (at_ : EA) (s : State) : Res EA :=
  (readWord at_ s).bind fun ptr s1 => .ok (absAddr ptr s1) s1

/-- A 24-bit pointer (R168). -/
def longPointerAddr (at_ : EA) (s : State) : Res EA :=
  (readN at_ 3 s).bind fun ptr s1 => .ok { base := ptr, wrap := .lin } s1

/-- The memory modes with an effective address (R123, R157-R171). -/
inductive MemMode where
  | dp (o : Byte)
  | dpX (o : Byte)
  | dpY (o : Byte)
  | dpInd (o : Byte)
  | dpIndX (o : Byte)
  | dpIndY (o : Byte)
  | dpIndL (o : Byte)
  | dpIndLY (o : Byte)
  | abs (a16 : Word)
  | absX (a16 : Word)
  | absY (a16 : Word)
  | long (a24 : Addr)
  | longX (a24 : Addr)
  | sr (o : Byte)
  | srIndY (o : Byte)
deriving DecidableEq, Repr

/-- `getAddress(ctx)` (R150), mode by mode. -/
def getAddress (mode : MemMode) (s : State) : Res EA :=
  match mode with
  | .dp o => .ok (dpAddr (zext8 o) s) s                                             -- R157
  | .dpX o => .ok (dpAddr (zext8 o + s.getX) s) s                                   -- R158
  | .dpY o => .ok (dpAddr (zext8 o + s.getY) s) s                                   -- R159
  | .dpInd o => pointerAddr (dpAddr (zext8 o) s) s                                  -- R165
  | .dpIndX o => pointerAddr (dpAddr (zext8 o + s.getX) s) s                        -- R166
  | .dpIndY o =>                                                                    -- R167
    (pointerAddr (dpAddr (zext8 o) s) s).bind fun ea s1 => .ok (ea.plus s1.getY) s1
  | .dpIndL o => longPointerAddr (dpAddr (zext8 o) s) s                             -- R168
  | .dpIndLY o =>                                                                   -- R169
    (longPointerAddr (dpAddr (zext8 o) s) s).bind fun ea s1 => .ok (ea.plus s1.getY) s1
  | .abs a16 => .ok (absAddr a16 s) s                                               -- R160
  | .absX a16 => .ok ((absAddr a16 s).plus s.getX) s                                -- R161
  | .absY a16 => .ok ((absAddr a16 s).plus s.getY) s                                -- R162
  | .long a24 => .ok { base := a24, wrap := .lin } s                                -- R163
  | .longX a24 => .ok (EA.plus { base := a24, wrap := .lin } s.getX) s              -- R164
  | .sr o => .ok (srAddr o s) s                                                     -- R170
  | .srIndY o =>                                                                    -- R171
    (pointerAddr (srAddr o s) s).bind fun ea s1 => .ok (ea.plus s1.getY) s1

/-- An operand: an immediate, the accumulator, or memory (R153). -/
inductive Operand where
  | imm (v : Imm)
  | acc
  | mem (mode : MemMode)
deriving DecidableEq, Repr

/-- The value of an immediate operand, an 8-bit one zero-extended (R125, R156). -/
def Imm.value (v : Imm) : Word :=
  match v with
  | .b v => zext8 v
  | .w v => v

/-- Read an operand of width `w` at an effective address: `ReadN(ea, w/8)` (R153). -/
def readAt (ea : EA) (w : Width) (s : State) : Res Word :=
  (readN ea w.bytes s).bind fun v s1 => .ok (offOf v) s1

/-- `getValue(w)` (R153). -/
def getValue (op : Operand) (w : Width) (s : State) : Res Word :=
  match op with
  | .imm v => .ok (trunc w (Imm.value v)) s
  | .acc => .ok s.getA s
  | .mem mode => (getAddress mode s).bind fun ea s1 => readAt ea w s1

/-- A store of width `w` through a mode: `ea <- getAddress(); setValue(w, v)`; the destination is not read (R154, R203). -/
def storeTo (mode : MemMode) (w : Width) (v : State → Word) (s : State) : Res Unit :=
  (getAddress mode s).bind fun ea s1 => writeN ea w.bytes (v s1) s1

/-- The operand of a read-modify-write instruction: the accumulator (R172) or memory. -/
inductive Dest where
  | acc
  | mem (mode : MemMode)
deriving DecidableEq, Repr

/-- A read-modify-write (R276): one `getAddress`, all bytes read, the flags that come before the write, all bytes written, the
flags that come after it. `pre` gives the state before `setValue` and `new` the value written, both from the value read. -/
def readModifyWrite (dst : Dest) (w : Width) (pre : Word → State → State) (new : Word → State → Word)
    (post : Word → State → State) (s : State) : Res Unit :=
  match dst with
  | .acc =>
    let v := s.getA
    let v' := new v s
    .ok () (post v' ((pre v s).setA v'))
  | .mem mode =>
    (getAddress mode s).bind fun ea s1 =>
      (readAt ea w s1).bind fun v s2 =>
        let v' := new v s2
        (writeN ea w.bytes v' (pre v s2)).bind fun _ s3 => .ok () (post v' s3)

/-! ### Control-transfer targets -/

/-- `target = (PC + sext_16(r)) mod 0x10000` (R174). -/
def rel8Target (r : Byte) (s : State) : Word := s.pc + sext8 r

/-- `target = (PC + r16) mod 0x10000` (R175). -/
def rel16Target (r16 : Word) (s : State) : Word := s.pc + r16

/-- `ReadN((0x00 : a16, Bank(0x00)), 2)` (R178). -/
def absIndTarget (a16 : Word) (s : State) : Res Word :=
  readWord { base := mkAddr 0x00 a16, wrap := .bank 0x00 } s

/-- `ReadN((K : ((a16 + getX()) mod 0x10000), Bank(K)), 2)` (R179). -/
def absIndXTarget (a16 : Word) (s : State) : Res Word :=
  readWord { base := mkAddr s.k (a16 + s.getX), wrap := .bank s.k } s

/-- `ReadN((0x00 : a16, Bank(0x00)), 3)` (R180). -/
def absIndLTarget (a16 : Word) (s : State) : Res Addr :=
  readN { base := mkAddr 0x00 a16, wrap := .bank 0x00 } 3 s

end Sys2Proof.Machine
end

