-- ==== Sys2Proof/Machine/Arith.lean ====
section
/-! DEFINITION. Addition, subtraction, comparison, increment and decrement (spec/42_arith_logic.md R250-R261, R275, R276). -/

namespace Sys2Proof.Machine

/-- ADC and SBC with P.D = 1 (R250): `F_DECIMAL_MODE`, before any data access, and nothing written. -/
def binaryOnly (opcode : Byte) (s : State) (body : Res Unit) : Res Unit :=
  if s.p.d then .raise (.decimalMode s.opAddr opcode) s else body

/-- The accumulator and flags that ADC and SBC leave (R251, R252). -/
def State.setAlu (s : State) (r : AluResult) : State :=
  { s.setA r.value with p := s.p.setAlu r s.wM }

/-- ADC (R251). -/
def addA (opcode : Byte) (op : Operand) (s : State) : Res Unit :=
  binaryOnly opcode s ((getValue op s.wM s).bind fun m s1 => .ok () (s1.setAlu (addWithCarry s1.wM s1.getA m s1.p.c)))

/-- SBC (R252). -/
def subA (opcode : Byte) (op : Operand) (s : State) : Res Unit :=
  binaryOnly opcode s ((getValue op s.wM s).bind fun m s1 => .ok () (s1.setAlu (subWithBorrow s1.wM s1.getA m s1.p.c)))

/-- CMP (R253). -/
def compareA (op : Operand) (s : State) : Res Unit :=
  (getValue op s.wM s).bind fun m s1 => .ok () { s1 with p := s1.p.compare s1.getA m s1.wM }

/-- CPX (R254). -/
def compareX (op : Operand) (s : State) : Res Unit :=
  (getValue op s.wX s).bind fun m s1 => .ok () { s1 with p := s1.p.compare s1.getX m s1.wX }

/-- CPY (R255). -/
def compareY (op : Operand) (s : State) : Res Unit :=
  (getValue op s.wX s).bind fun m s1 => .ok () { s1 with p := s1.p.compare s1.getY m s1.wX }

/-- A read-modify-write that changes no flag before the write and sets N and Z after it (INC, DEC; R256, R257). -/
def modifyNZ (dst : Dest) (new : Word → Word) (s : State) : Res Unit :=
  readModifyWrite dst s.wM (fun _ t => t) (fun v _ => trunc s.wM (new v)) (fun v t => t.setNZ v s.wM) s

/-- INC (R256). -/
def increment (dst : Dest) (s : State) : Res Unit := modifyNZ dst (fun v => v + 1) s

/-- DEC (R257). -/
def decrement (dst : Dest) (s : State) : Res Unit := modifyNZ dst (fun v => v - 1) s

/-- INX, DEX (R258, R260): X plus `delta` at wX. -/
def State.stepX (s : State) (delta : Word) : State :=
  let s1 := s.setX (s.getX + delta)
  s1.setNZ s1.getX s1.wX

/-- INY, DEY (R259, R261): Y plus `delta` at wX. -/
def State.stepY (s : State) (delta : Word) : State :=
  let s1 := s.setY (s.getY + delta)
  s1.setNZ s1.getY s1.wX

/-- ADC 61: R251, dpIndX R166. -/
def execAdcDpIndX (o : Byte) (s : State) : Out :=
  finish (addA 0x61 (.mem (.dpIndX o)) s)

/-- ADC 63: R251, sr R170. -/
def execAdcSr (o : Byte) (s : State) : Out :=
  finish (addA 0x63 (.mem (.sr o)) s)

/-- ADC 65: R251, dp R157. -/
def execAdcDp (o : Byte) (s : State) : Out :=
  finish (addA 0x65 (.mem (.dp o)) s)

/-- ADC 67: R251, dpIndL R168. -/
def execAdcDpIndL (o : Byte) (s : State) : Out :=
  finish (addA 0x67 (.mem (.dpIndL o)) s)

/-- ADC 69: R251, immM R156. -/
def execAdcImmM (v : Imm) (s : State) : Out :=
  finish (addA 0x69 (.imm v) s)

/-- ADC 6D: R251, abs R160. -/
def execAdcAbs (a16 : Word) (s : State) : Out :=
  finish (addA 0x6D (.mem (.abs a16)) s)

/-- ADC 6F: R251, long R163. -/
def execAdcLong (a24 : Addr) (s : State) : Out :=
  finish (addA 0x6F (.mem (.long a24)) s)

/-- ADC 71: R251, dpIndY R167. -/
def execAdcDpIndY (o : Byte) (s : State) : Out :=
  finish (addA 0x71 (.mem (.dpIndY o)) s)

/-- ADC 72: R251, dpInd R165. -/
def execAdcDpInd (o : Byte) (s : State) : Out :=
  finish (addA 0x72 (.mem (.dpInd o)) s)

/-- ADC 73: R251, srIndY R171. -/
def execAdcSrIndY (o : Byte) (s : State) : Out :=
  finish (addA 0x73 (.mem (.srIndY o)) s)

/-- ADC 75: R251, dpX R158. -/
def execAdcDpX (o : Byte) (s : State) : Out :=
  finish (addA 0x75 (.mem (.dpX o)) s)

/-- ADC 77: R251, dpIndLY R169. -/
def execAdcDpIndLY (o : Byte) (s : State) : Out :=
  finish (addA 0x77 (.mem (.dpIndLY o)) s)

/-- ADC 79: R251, absY R162. -/
def execAdcAbsY (a16 : Word) (s : State) : Out :=
  finish (addA 0x79 (.mem (.absY a16)) s)

/-- ADC 7D: R251, absX R161. -/
def execAdcAbsX (a16 : Word) (s : State) : Out :=
  finish (addA 0x7D (.mem (.absX a16)) s)

/-- ADC 7F: R251, longX R164. -/
def execAdcLongX (a24 : Addr) (s : State) : Out :=
  finish (addA 0x7F (.mem (.longX a24)) s)

/-- SBC E1: R252, dpIndX R166. -/
def execSbcDpIndX (o : Byte) (s : State) : Out :=
  finish (subA 0xE1 (.mem (.dpIndX o)) s)

/-- SBC E3: R252, sr R170. -/
def execSbcSr (o : Byte) (s : State) : Out :=
  finish (subA 0xE3 (.mem (.sr o)) s)

/-- SBC E5: R252, dp R157. -/
def execSbcDp (o : Byte) (s : State) : Out :=
  finish (subA 0xE5 (.mem (.dp o)) s)

/-- SBC E7: R252, dpIndL R168. -/
def execSbcDpIndL (o : Byte) (s : State) : Out :=
  finish (subA 0xE7 (.mem (.dpIndL o)) s)

/-- SBC E9: R252, immM R156. -/
def execSbcImmM (v : Imm) (s : State) : Out :=
  finish (subA 0xE9 (.imm v) s)

/-- SBC ED: R252, abs R160. -/
def execSbcAbs (a16 : Word) (s : State) : Out :=
  finish (subA 0xED (.mem (.abs a16)) s)

/-- SBC EF: R252, long R163. -/
def execSbcLong (a24 : Addr) (s : State) : Out :=
  finish (subA 0xEF (.mem (.long a24)) s)

/-- SBC F1: R252, dpIndY R167. -/
def execSbcDpIndY (o : Byte) (s : State) : Out :=
  finish (subA 0xF1 (.mem (.dpIndY o)) s)

/-- SBC F2: R252, dpInd R165. -/
def execSbcDpInd (o : Byte) (s : State) : Out :=
  finish (subA 0xF2 (.mem (.dpInd o)) s)

/-- SBC F3: R252, srIndY R171. -/
def execSbcSrIndY (o : Byte) (s : State) : Out :=
  finish (subA 0xF3 (.mem (.srIndY o)) s)

/-- SBC F5: R252, dpX R158. -/
def execSbcDpX (o : Byte) (s : State) : Out :=
  finish (subA 0xF5 (.mem (.dpX o)) s)

/-- SBC F7: R252, dpIndLY R169. -/
def execSbcDpIndLY (o : Byte) (s : State) : Out :=
  finish (subA 0xF7 (.mem (.dpIndLY o)) s)

/-- SBC F9: R252, absY R162. -/
def execSbcAbsY (a16 : Word) (s : State) : Out :=
  finish (subA 0xF9 (.mem (.absY a16)) s)

/-- SBC FD: R252, absX R161. -/
def execSbcAbsX (a16 : Word) (s : State) : Out :=
  finish (subA 0xFD (.mem (.absX a16)) s)

/-- SBC FF: R252, longX R164. -/
def execSbcLongX (a24 : Addr) (s : State) : Out :=
  finish (subA 0xFF (.mem (.longX a24)) s)

/-- CMP C1: R253, dpIndX R166. -/
def execCmpDpIndX (o : Byte) (s : State) : Out :=
  finish (compareA (.mem (.dpIndX o)) s)

/-- CMP C3: R253, sr R170. -/
def execCmpSr (o : Byte) (s : State) : Out :=
  finish (compareA (.mem (.sr o)) s)

/-- CMP C5: R253, dp R157. -/
def execCmpDp (o : Byte) (s : State) : Out :=
  finish (compareA (.mem (.dp o)) s)

/-- CMP C7: R253, dpIndL R168. -/
def execCmpDpIndL (o : Byte) (s : State) : Out :=
  finish (compareA (.mem (.dpIndL o)) s)

/-- CMP C9: R253, immM R156. -/
def execCmpImmM (v : Imm) (s : State) : Out :=
  finish (compareA (.imm v) s)

/-- CMP CD: R253, abs R160. -/
def execCmpAbs (a16 : Word) (s : State) : Out :=
  finish (compareA (.mem (.abs a16)) s)

/-- CMP CF: R253, long R163. -/
def execCmpLong (a24 : Addr) (s : State) : Out :=
  finish (compareA (.mem (.long a24)) s)

/-- CMP D1: R253, dpIndY R167. -/
def execCmpDpIndY (o : Byte) (s : State) : Out :=
  finish (compareA (.mem (.dpIndY o)) s)

/-- CMP D2: R253, dpInd R165. -/
def execCmpDpInd (o : Byte) (s : State) : Out :=
  finish (compareA (.mem (.dpInd o)) s)

/-- CMP D3: R253, srIndY R171. -/
def execCmpSrIndY (o : Byte) (s : State) : Out :=
  finish (compareA (.mem (.srIndY o)) s)

/-- CMP D5: R253, dpX R158. -/
def execCmpDpX (o : Byte) (s : State) : Out :=
  finish (compareA (.mem (.dpX o)) s)

/-- CMP D7: R253, dpIndLY R169. -/
def execCmpDpIndLY (o : Byte) (s : State) : Out :=
  finish (compareA (.mem (.dpIndLY o)) s)

/-- CMP D9: R253, absY R162. -/
def execCmpAbsY (a16 : Word) (s : State) : Out :=
  finish (compareA (.mem (.absY a16)) s)

/-- CMP DD: R253, absX R161. -/
def execCmpAbsX (a16 : Word) (s : State) : Out :=
  finish (compareA (.mem (.absX a16)) s)

/-- CMP DF: R253, longX R164. -/
def execCmpLongX (a24 : Addr) (s : State) : Out :=
  finish (compareA (.mem (.longX a24)) s)

/-- CPX E0: R254, immX R156. -/
def execCpxImmX (v : Imm) (s : State) : Out :=
  finish (compareX (.imm v) s)

/-- CPX E4: R254, dp R157. -/
def execCpxDp (o : Byte) (s : State) : Out :=
  finish (compareX (.mem (.dp o)) s)

/-- CPX EC: R254, abs R160. -/
def execCpxAbs (a16 : Word) (s : State) : Out :=
  finish (compareX (.mem (.abs a16)) s)

/-- CPY C0: R255, immX R156. -/
def execCpyImmX (v : Imm) (s : State) : Out :=
  finish (compareY (.imm v) s)

/-- CPY C4: R255, dp R157. -/
def execCpyDp (o : Byte) (s : State) : Out :=
  finish (compareY (.mem (.dp o)) s)

/-- CPY CC: R255, abs R160. -/
def execCpyAbs (a16 : Word) (s : State) : Out :=
  finish (compareY (.mem (.abs a16)) s)

/-- INC 1A: R256, acc R172. -/
def execIncAcc (s : State) : Out :=
  finish (increment .acc s)

/-- INC E6: R256, dp R157. -/
def execIncDp (o : Byte) (s : State) : Out :=
  finish (increment (.mem (.dp o)) s)

/-- INC EE: R256, abs R160. -/
def execIncAbs (a16 : Word) (s : State) : Out :=
  finish (increment (.mem (.abs a16)) s)

/-- INC F6: R256, dpX R158. -/
def execIncDpX (o : Byte) (s : State) : Out :=
  finish (increment (.mem (.dpX o)) s)

/-- INC FE: R256, absX R161. -/
def execIncAbsX (a16 : Word) (s : State) : Out :=
  finish (increment (.mem (.absX a16)) s)

/-- DEC 3A: R257, acc R172. -/
def execDecAcc (s : State) : Out :=
  finish (decrement .acc s)

/-- DEC C6: R257, dp R157. -/
def execDecDp (o : Byte) (s : State) : Out :=
  finish (decrement (.mem (.dp o)) s)

/-- DEC CE: R257, abs R160. -/
def execDecAbs (a16 : Word) (s : State) : Out :=
  finish (decrement (.mem (.abs a16)) s)

/-- DEC D6: R257, dpX R158. -/
def execDecDpX (o : Byte) (s : State) : Out :=
  finish (decrement (.mem (.dpX o)) s)

/-- DEC DE: R257, absX R161. -/
def execDecAbsX (a16 : Word) (s : State) : Out :=
  finish (decrement (.mem (.absX a16)) s)

/-- INX E8: R258. -/
def execInx (s : State) : Out :=
  .next (s.stepX 1)

/-- INY C8: R259. -/
def execIny (s : State) : Out :=
  .next (s.stepY 1)

/-- DEX CA: R260. -/
def execDex (s : State) : Out :=
  .next (s.stepX 0xFFFF)

/-- DEY 88: R261. -/
def execDey (s : State) : Out :=
  .next (s.stepY 0xFFFF)

end Sys2Proof.Machine
end

