-- ==== Sys2Proof/Machine/BlockMove.lean ====
section
/-! DEFINITION. Block moves (spec/41_load_store_transfer.md R225, R226; spec/40_addressing.md R181): the whole move is one step (D20). -/

namespace Sys2Proof.Machine

/-- One byte of a block move (R225): read `sbk : X`, write `dbk : Y`, then step X and Y by `delta` at their width and count
C16 down. -/
def blockMoveByte (delta : Word) (dbk sbk : Byte) (s : State) : Res Unit :=
  (memRead (mkAddr sbk s.getX) s).bind fun v s1 =>
    (memWrite (mkAddr dbk s1.getY) v s1).bind fun _ s2 =>
      let s3 := s2.setX (s2.getX + delta)
      let s4 := s3.setY (s3.getY + delta)
      .ok () { s4 with a := s4.a - 1 }

/-- The bytes of a block move, `n + 1` of them. -/
def blockMoveBytes (delta : Word) (dbk sbk : Byte) : Nat → State → Res Unit
  | 0, s => blockMoveByte delta dbk sbk s
  | n + 1, s => (blockMoveByte delta dbk sbk s).bind fun _ s1 => blockMoveBytes delta dbk sbk n s1

/-- MVN and MVP (R225, R226): DBR takes the destination bank, and `C16 + 1` bytes move, until C16 is 0xFFFF. -/
def blockMove (delta : Word) (dbk sbk : Byte) (s : State) : Res Unit :=
  blockMoveBytes delta dbk sbk s.a.toNat { s with dbr := dbk }

/-- MVN 54: R225, blk R181. -/
def execMvn (dbk : Byte) (sbk : Byte) (s : State) : Out :=
  finish (blockMove 1 dbk sbk s)

/-- MVP 44: R226, blk R181. -/
def execMvp (dbk : Byte) (sbk : Byte) (s : State) : Out :=
  finish (blockMove 0xFFFF dbk sbk s)

end Sys2Proof.Machine
end

