-- ==== Sys2Proof/Machine/Control.lean ====
section
/-! DEFINITION. Branches, jumps, calls and returns (spec/43_control.md R300-R316). -/

namespace Sys2Proof.Machine

/-- A jump within the program bank: PC is written, K is not (R300). -/
def State.jump (s : State) (target : Word) : State := { s with pc := target }

/-- A jump to a 24-bit target: K and PC are written (R177, R180, R312). -/
def State.jumpLong (s : State) (target : Addr) : State := { s with k := bankOf target, pc := offOf target }

/-- A branch (R300): PC takes the target where the condition holds, and otherwise stays. -/
def State.branchIf (s : State) (taken : Bool) (target : Word) : State :=
  { s with pc := if taken then target else s.pc }

/-- The return address that a call pushes, `(PC - 1) mod 0x10000` (R300). -/
def State.returnAddress (s : State) : Word := s.pc - 1

/-- JSR (addr,X) (R313): the pointer is read after the push. -/
def callIndexed (a16 : Word) (s : State) : Res Unit :=
  (push16 s.returnAddress s).bind fun _ s1 => (absIndXTarget a16 s1).bind fun t s2 => .ok () (s2.jump t)

/-- JSL (R314): K, then the return address. -/
def callLong (a24 : Addr) (s : State) : Res Unit :=
  (push8 s.k s).bind fun _ s1 => (push16 s.returnAddress s1).bind fun _ s2 => .ok () (s2.jumpLong a24)

/-- RTL (R316). -/
def returnLong (s : State) : Res Unit :=
  (pop16 s).bind fun r s1 => (pop8 s1).bind fun k s2 => .ok () { s2 with k := k, pc := r + 1 }

/-- BPL 10: R301, rel8 R174. -/
def execBpl (r : Byte) (s : State) : Out :=
  .next (s.branchIf (!s.p.n) (rel8Target r s))

/-- BMI 30: R302, rel8 R174. -/
def execBmi (r : Byte) (s : State) : Out :=
  .next (s.branchIf (s.p.n) (rel8Target r s))

/-- BVC 50: R303, rel8 R174. -/
def execBvc (r : Byte) (s : State) : Out :=
  .next (s.branchIf (!s.p.v) (rel8Target r s))

/-- BVS 70: R304, rel8 R174. -/
def execBvs (r : Byte) (s : State) : Out :=
  .next (s.branchIf (s.p.v) (rel8Target r s))

/-- BCC 90: R305, rel8 R174. -/
def execBcc (r : Byte) (s : State) : Out :=
  .next (s.branchIf (!s.p.c) (rel8Target r s))

/-- BCS B0: R306, rel8 R174. -/
def execBcs (r : Byte) (s : State) : Out :=
  .next (s.branchIf (s.p.c) (rel8Target r s))

/-- BNE D0: R307, rel8 R174. -/
def execBne (r : Byte) (s : State) : Out :=
  .next (s.branchIf (!s.p.z) (rel8Target r s))

/-- BEQ F0: R308, rel8 R174. -/
def execBeq (r : Byte) (s : State) : Out :=
  .next (s.branchIf (s.p.z) (rel8Target r s))

/-- BRA 80: R309, rel8 R174. -/
def execBra (r : Byte) (s : State) : Out :=
  .next (s.jump (rel8Target r s))

/-- BRL 82: R310, rel16 R175. -/
def execBrl (r16 : Word) (s : State) : Out :=
  .next (s.jump (rel16Target r16 s))

/-- JMP 4C: R311, absJ R176. -/
def execJmpAbsJ (a16 : Word) (s : State) : Out :=
  .next (s.jump a16)

/-- JMP 6C: R311, absInd R178. -/
def execJmpAbsInd (a16 : Word) (s : State) : Out :=
  finish ((absIndTarget a16 s).bind fun t s1 => .ok () (s1.jump t))

/-- JMP 7C: R311, absIndX R179. -/
def execJmpAbsIndX (a16 : Word) (s : State) : Out :=
  finish ((absIndXTarget a16 s).bind fun t s1 => .ok () (s1.jump t))

/-- JML 5C: R312, longJ R177. -/
def execJmlLongJ (a24 : Addr) (s : State) : Out :=
  .next (s.jumpLong a24)

/-- JML DC: R312, absIndL R180. -/
def execJmlAbsIndL (a16 : Word) (s : State) : Out :=
  finish ((absIndLTarget a16 s).bind fun t s1 => .ok () (s1.jumpLong t))

/-- JSR 20: R313, absJ R176. -/
def execJsrAbsJ (a16 : Word) (s : State) : Out :=
  finish ((push16 s.returnAddress s).bind fun _ s1 => .ok () (s1.jump a16))

/-- JSR FC: R313, absIndX R179. -/
def execJsrAbsIndX (a16 : Word) (s : State) : Out :=
  finish (callIndexed a16 s)

/-- JSL 22: R314, longJ R177. -/
def execJsl (a24 : Addr) (s : State) : Out :=
  finish (callLong a24 s)

/-- RTS 60: R315. -/
def execRts (s : State) : Out :=
  finish ((pop16 s).bind fun r s1 => .ok () (s1.jump (r + 1)))

/-- RTL 6B: R316. -/
def execRtl (s : State) : Out :=
  finish (returnLong s)

end Sys2Proof.Machine
end

