-- ==== Sys2Proof/Machine/LoadStore.lean ====
section
/-! DEFINITION. Loads and stores (spec/41_load_store_transfer.md R200-R206). -/

namespace Sys2Proof.Machine

/-- LDA (R200): `v <- getValue(wM); setA(v); setNZ(v, wM)`. -/
def loadA (op : Operand) (s : State) : Res Unit :=
  (getValue op s.wM s).bind fun v s1 => .ok () ((s1.setA v).setNZ v s1.wM)

/-- LDX (R201). -/
def loadX (op : Operand) (s : State) : Res Unit :=
  (getValue op s.wX s).bind fun v s1 => .ok () ((s1.setX v).setNZ v s1.wX)

/-- LDY (R202). -/
def loadY (op : Operand) (s : State) : Res Unit :=
  (getValue op s.wX s).bind fun v s1 => .ok () ((s1.setY v).setNZ v s1.wX)

/-- STA (R203): `ea <- getAddress(); setValue(wM, getA())`. -/
def storeA (mode : MemMode) (s : State) : Res Unit := storeTo mode s.wM State.getA s

/-- STX (R204). -/
def storeX (mode : MemMode) (s : State) : Res Unit := storeTo mode s.wX State.getX s

/-- STY (R205). -/
def storeY (mode : MemMode) (s : State) : Res Unit := storeTo mode s.wX State.getY s

/-- STZ (R206): the width follows M. -/
def storeZero (mode : MemMode) (s : State) : Res Unit := storeTo mode s.wM (fun _ => 0) s

/-- LDA A1: R200, dpIndX R166. -/
def execLdaDpIndX (o : Byte) (s : State) : Out :=
  finish (loadA (.mem (.dpIndX o)) s)

/-- LDA A3: R200, sr R170. -/
def execLdaSr (o : Byte) (s : State) : Out :=
  finish (loadA (.mem (.sr o)) s)

/-- LDA A5: R200, dp R157. -/
def execLdaDp (o : Byte) (s : State) : Out :=
  finish (loadA (.mem (.dp o)) s)

/-- LDA A7: R200, dpIndL R168. -/
def execLdaDpIndL (o : Byte) (s : State) : Out :=
  finish (loadA (.mem (.dpIndL o)) s)

/-- LDA A9: R200, immM R156. -/
def execLdaImmM (v : Imm) (s : State) : Out :=
  finish (loadA (.imm v) s)

/-- LDA AD: R200, abs R160. -/
def execLdaAbs (a16 : Word) (s : State) : Out :=
  finish (loadA (.mem (.abs a16)) s)

/-- LDA AF: R200, long R163. -/
def execLdaLong (a24 : Addr) (s : State) : Out :=
  finish (loadA (.mem (.long a24)) s)

/-- LDA B1: R200, dpIndY R167. -/
def execLdaDpIndY (o : Byte) (s : State) : Out :=
  finish (loadA (.mem (.dpIndY o)) s)

/-- LDA B2: R200, dpInd R165. -/
def execLdaDpInd (o : Byte) (s : State) : Out :=
  finish (loadA (.mem (.dpInd o)) s)

/-- LDA B3: R200, srIndY R171. -/
def execLdaSrIndY (o : Byte) (s : State) : Out :=
  finish (loadA (.mem (.srIndY o)) s)

/-- LDA B5: R200, dpX R158. -/
def execLdaDpX (o : Byte) (s : State) : Out :=
  finish (loadA (.mem (.dpX o)) s)

/-- LDA B7: R200, dpIndLY R169. -/
def execLdaDpIndLY (o : Byte) (s : State) : Out :=
  finish (loadA (.mem (.dpIndLY o)) s)

/-- LDA B9: R200, absY R162. -/
def execLdaAbsY (a16 : Word) (s : State) : Out :=
  finish (loadA (.mem (.absY a16)) s)

/-- LDA BD: R200, absX R161. -/
def execLdaAbsX (a16 : Word) (s : State) : Out :=
  finish (loadA (.mem (.absX a16)) s)

/-- LDA BF: R200, longX R164. -/
def execLdaLongX (a24 : Addr) (s : State) : Out :=
  finish (loadA (.mem (.longX a24)) s)

/-- LDX A2: R201, immX R156. -/
def execLdxImmX (v : Imm) (s : State) : Out :=
  finish (loadX (.imm v) s)

/-- LDX A6: R201, dp R157. -/
def execLdxDp (o : Byte) (s : State) : Out :=
  finish (loadX (.mem (.dp o)) s)

/-- LDX AE: R201, abs R160. -/
def execLdxAbs (a16 : Word) (s : State) : Out :=
  finish (loadX (.mem (.abs a16)) s)

/-- LDX B6: R201, dpY R159. -/
def execLdxDpY (o : Byte) (s : State) : Out :=
  finish (loadX (.mem (.dpY o)) s)

/-- LDX BE: R201, absY R162. -/
def execLdxAbsY (a16 : Word) (s : State) : Out :=
  finish (loadX (.mem (.absY a16)) s)

/-- LDY A0: R202, immX R156. -/
def execLdyImmX (v : Imm) (s : State) : Out :=
  finish (loadY (.imm v) s)

/-- LDY A4: R202, dp R157. -/
def execLdyDp (o : Byte) (s : State) : Out :=
  finish (loadY (.mem (.dp o)) s)

/-- LDY AC: R202, abs R160. -/
def execLdyAbs (a16 : Word) (s : State) : Out :=
  finish (loadY (.mem (.abs a16)) s)

/-- LDY B4: R202, dpX R158. -/
def execLdyDpX (o : Byte) (s : State) : Out :=
  finish (loadY (.mem (.dpX o)) s)

/-- LDY BC: R202, absX R161. -/
def execLdyAbsX (a16 : Word) (s : State) : Out :=
  finish (loadY (.mem (.absX a16)) s)

/-- STA 81: R203, dpIndX R166. -/
def execStaDpIndX (o : Byte) (s : State) : Out :=
  finish (storeA (.dpIndX o) s)

/-- STA 83: R203, sr R170. -/
def execStaSr (o : Byte) (s : State) : Out :=
  finish (storeA (.sr o) s)

/-- STA 85: R203, dp R157. -/
def execStaDp (o : Byte) (s : State) : Out :=
  finish (storeA (.dp o) s)

/-- STA 87: R203, dpIndL R168. -/
def execStaDpIndL (o : Byte) (s : State) : Out :=
  finish (storeA (.dpIndL o) s)

/-- STA 8D: R203, abs R160. -/
def execStaAbs (a16 : Word) (s : State) : Out :=
  finish (storeA (.abs a16) s)

/-- STA 8F: R203, long R163. -/
def execStaLong (a24 : Addr) (s : State) : Out :=
  finish (storeA (.long a24) s)

/-- STA 91: R203, dpIndY R167. -/
def execStaDpIndY (o : Byte) (s : State) : Out :=
  finish (storeA (.dpIndY o) s)

/-- STA 92: R203, dpInd R165. -/
def execStaDpInd (o : Byte) (s : State) : Out :=
  finish (storeA (.dpInd o) s)

/-- STA 93: R203, srIndY R171. -/
def execStaSrIndY (o : Byte) (s : State) : Out :=
  finish (storeA (.srIndY o) s)

/-- STA 95: R203, dpX R158. -/
def execStaDpX (o : Byte) (s : State) : Out :=
  finish (storeA (.dpX o) s)

/-- STA 97: R203, dpIndLY R169. -/
def execStaDpIndLY (o : Byte) (s : State) : Out :=
  finish (storeA (.dpIndLY o) s)

/-- STA 99: R203, absY R162. -/
def execStaAbsY (a16 : Word) (s : State) : Out :=
  finish (storeA (.absY a16) s)

/-- STA 9D: R203, absX R161. -/
def execStaAbsX (a16 : Word) (s : State) : Out :=
  finish (storeA (.absX a16) s)

/-- STA 9F: R203, longX R164. -/
def execStaLongX (a24 : Addr) (s : State) : Out :=
  finish (storeA (.longX a24) s)

/-- STX 86: R204, dp R157. -/
def execStxDp (o : Byte) (s : State) : Out :=
  finish (storeX (.dp o) s)

/-- STX 8E: R204, abs R160. -/
def execStxAbs (a16 : Word) (s : State) : Out :=
  finish (storeX (.abs a16) s)

/-- STX 96: R204, dpY R159. -/
def execStxDpY (o : Byte) (s : State) : Out :=
  finish (storeX (.dpY o) s)

/-- STY 84: R205, dp R157. -/
def execStyDp (o : Byte) (s : State) : Out :=
  finish (storeY (.dp o) s)

/-- STY 8C: R205, abs R160. -/
def execStyAbs (a16 : Word) (s : State) : Out :=
  finish (storeY (.abs a16) s)

/-- STY 94: R205, dpX R158. -/
def execStyDpX (o : Byte) (s : State) : Out :=
  finish (storeY (.dpX o) s)

/-- STZ 64: R206, dp R157. -/
def execStzDp (o : Byte) (s : State) : Out :=
  finish (storeZero (.dp o) s)

/-- STZ 74: R206, dpX R158. -/
def execStzDpX (o : Byte) (s : State) : Out :=
  finish (storeZero (.dpX o) s)

/-- STZ 9C: R206, abs R160. -/
def execStzAbs (a16 : Word) (s : State) : Out :=
  finish (storeZero (.abs a16) s)

/-- STZ 9E: R206, absX R161. -/
def execStzAbsX (a16 : Word) (s : State) : Out :=
  finish (storeZero (.absX a16) s)

end Sys2Proof.Machine
end

