-- ==== Sys2Proof/Machine/Logic.lean ====
section
/-! DEFINITION. Logic and bit tests (spec/42_arith_logic.md R262-R267). -/

namespace Sys2Proof.Machine

/-- AND, ORA and EOR (R262-R264): `res <- getA() op getValue(wM); setA(res); setNZ(res, wM)`. -/
def logicA (f : Word → Word → Word) (op : Operand) (s : State) : Res Unit :=
  (getValue op s.wM s).bind fun m s1 =>
    let res := f s1.getA m
    .ok () ((s1.setA res).setNZ res s1.wM)

/-- `P.Z <- ((getA() AND m) = 0)` (R265-R267). -/
def State.testZ (s : State) (m : Word) : State :=
  { s with p := { s.p with z := s.getA &&& m == 0 } }

/-- BIT with an immediate (R265): Z only. -/
def bitImmediate (v : Imm) (s : State) : Res Unit :=
  (getValue (.imm v) s.wM s).bind fun m s1 => .ok () (s1.testZ m)

/-- BIT with a memory operand (R265): Z, and N and V from the operand. -/
def bitMemory (mode : MemMode) (s : State) : Res Unit :=
  (getValue (.mem mode) s.wM s).bind fun m s1 =>
    let s2 := s1.testZ m
    .ok () { s2 with p := { s2.p with n := signBit s2.wM m, v := belowSignBit s2.wM m } }

/-- TSB and TRB (R266, R267): Z from the old value before the write, no other flag. -/
def testAndModify (f : Word → Word → Word) (mode : MemMode) (s : State) : Res Unit :=
  readModifyWrite (.mem mode) s.wM (fun v t => t.testZ v) (fun v t => f v t.getA) (fun _ t => t) s

/-- AND 21: R262, dpIndX R166. -/
def execAndDpIndX (o : Byte) (s : State) : Out :=
  finish (logicA (· &&& ·) (.mem (.dpIndX o)) s)

/-- AND 23: R262, sr R170. -/
def execAndSr (o : Byte) (s : State) : Out :=
  finish (logicA (· &&& ·) (.mem (.sr o)) s)

/-- AND 25: R262, dp R157. -/
def execAndDp (o : Byte) (s : State) : Out :=
  finish (logicA (· &&& ·) (.mem (.dp o)) s)

/-- AND 27: R262, dpIndL R168. -/
def execAndDpIndL (o : Byte) (s : State) : Out :=
  finish (logicA (· &&& ·) (.mem (.dpIndL o)) s)

/-- AND 29: R262, immM R156. -/
def execAndImmM (v : Imm) (s : State) : Out :=
  finish (logicA (· &&& ·) (.imm v) s)

/-- AND 2D: R262, abs R160. -/
def execAndAbs (a16 : Word) (s : State) : Out :=
  finish (logicA (· &&& ·) (.mem (.abs a16)) s)

/-- AND 2F: R262, long R163. -/
def execAndLong (a24 : Addr) (s : State) : Out :=
  finish (logicA (· &&& ·) (.mem (.long a24)) s)

/-- AND 31: R262, dpIndY R167. -/
def execAndDpIndY (o : Byte) (s : State) : Out :=
  finish (logicA (· &&& ·) (.mem (.dpIndY o)) s)

/-- AND 32: R262, dpInd R165. -/
def execAndDpInd (o : Byte) (s : State) : Out :=
  finish (logicA (· &&& ·) (.mem (.dpInd o)) s)

/-- AND 33: R262, srIndY R171. -/
def execAndSrIndY (o : Byte) (s : State) : Out :=
  finish (logicA (· &&& ·) (.mem (.srIndY o)) s)

/-- AND 35: R262, dpX R158. -/
def execAndDpX (o : Byte) (s : State) : Out :=
  finish (logicA (· &&& ·) (.mem (.dpX o)) s)

/-- AND 37: R262, dpIndLY R169. -/
def execAndDpIndLY (o : Byte) (s : State) : Out :=
  finish (logicA (· &&& ·) (.mem (.dpIndLY o)) s)

/-- AND 39: R262, absY R162. -/
def execAndAbsY (a16 : Word) (s : State) : Out :=
  finish (logicA (· &&& ·) (.mem (.absY a16)) s)

/-- AND 3D: R262, absX R161. -/
def execAndAbsX (a16 : Word) (s : State) : Out :=
  finish (logicA (· &&& ·) (.mem (.absX a16)) s)

/-- AND 3F: R262, longX R164. -/
def execAndLongX (a24 : Addr) (s : State) : Out :=
  finish (logicA (· &&& ·) (.mem (.longX a24)) s)

/-- ORA 01: R263, dpIndX R166. -/
def execOraDpIndX (o : Byte) (s : State) : Out :=
  finish (logicA (· ||| ·) (.mem (.dpIndX o)) s)

/-- ORA 03: R263, sr R170. -/
def execOraSr (o : Byte) (s : State) : Out :=
  finish (logicA (· ||| ·) (.mem (.sr o)) s)

/-- ORA 05: R263, dp R157. -/
def execOraDp (o : Byte) (s : State) : Out :=
  finish (logicA (· ||| ·) (.mem (.dp o)) s)

/-- ORA 07: R263, dpIndL R168. -/
def execOraDpIndL (o : Byte) (s : State) : Out :=
  finish (logicA (· ||| ·) (.mem (.dpIndL o)) s)

/-- ORA 09: R263, immM R156. -/
def execOraImmM (v : Imm) (s : State) : Out :=
  finish (logicA (· ||| ·) (.imm v) s)

/-- ORA 0D: R263, abs R160. -/
def execOraAbs (a16 : Word) (s : State) : Out :=
  finish (logicA (· ||| ·) (.mem (.abs a16)) s)

/-- ORA 0F: R263, long R163. -/
def execOraLong (a24 : Addr) (s : State) : Out :=
  finish (logicA (· ||| ·) (.mem (.long a24)) s)

/-- ORA 11: R263, dpIndY R167. -/
def execOraDpIndY (o : Byte) (s : State) : Out :=
  finish (logicA (· ||| ·) (.mem (.dpIndY o)) s)

/-- ORA 12: R263, dpInd R165. -/
def execOraDpInd (o : Byte) (s : State) : Out :=
  finish (logicA (· ||| ·) (.mem (.dpInd o)) s)

/-- ORA 13: R263, srIndY R171. -/
def execOraSrIndY (o : Byte) (s : State) : Out :=
  finish (logicA (· ||| ·) (.mem (.srIndY o)) s)

/-- ORA 15: R263, dpX R158. -/
def execOraDpX (o : Byte) (s : State) : Out :=
  finish (logicA (· ||| ·) (.mem (.dpX o)) s)

/-- ORA 17: R263, dpIndLY R169. -/
def execOraDpIndLY (o : Byte) (s : State) : Out :=
  finish (logicA (· ||| ·) (.mem (.dpIndLY o)) s)

/-- ORA 19: R263, absY R162. -/
def execOraAbsY (a16 : Word) (s : State) : Out :=
  finish (logicA (· ||| ·) (.mem (.absY a16)) s)

/-- ORA 1D: R263, absX R161. -/
def execOraAbsX (a16 : Word) (s : State) : Out :=
  finish (logicA (· ||| ·) (.mem (.absX a16)) s)

/-- ORA 1F: R263, longX R164. -/
def execOraLongX (a24 : Addr) (s : State) : Out :=
  finish (logicA (· ||| ·) (.mem (.longX a24)) s)

/-- EOR 41: R264, dpIndX R166. -/
def execEorDpIndX (o : Byte) (s : State) : Out :=
  finish (logicA (· ^^^ ·) (.mem (.dpIndX o)) s)

/-- EOR 43: R264, sr R170. -/
def execEorSr (o : Byte) (s : State) : Out :=
  finish (logicA (· ^^^ ·) (.mem (.sr o)) s)

/-- EOR 45: R264, dp R157. -/
def execEorDp (o : Byte) (s : State) : Out :=
  finish (logicA (· ^^^ ·) (.mem (.dp o)) s)

/-- EOR 47: R264, dpIndL R168. -/
def execEorDpIndL (o : Byte) (s : State) : Out :=
  finish (logicA (· ^^^ ·) (.mem (.dpIndL o)) s)

/-- EOR 49: R264, immM R156. -/
def execEorImmM (v : Imm) (s : State) : Out :=
  finish (logicA (· ^^^ ·) (.imm v) s)

/-- EOR 4D: R264, abs R160. -/
def execEorAbs (a16 : Word) (s : State) : Out :=
  finish (logicA (· ^^^ ·) (.mem (.abs a16)) s)

/-- EOR 4F: R264, long R163. -/
def execEorLong (a24 : Addr) (s : State) : Out :=
  finish (logicA (· ^^^ ·) (.mem (.long a24)) s)

/-- EOR 51: R264, dpIndY R167. -/
def execEorDpIndY (o : Byte) (s : State) : Out :=
  finish (logicA (· ^^^ ·) (.mem (.dpIndY o)) s)

/-- EOR 52: R264, dpInd R165. -/
def execEorDpInd (o : Byte) (s : State) : Out :=
  finish (logicA (· ^^^ ·) (.mem (.dpInd o)) s)

/-- EOR 53: R264, srIndY R171. -/
def execEorSrIndY (o : Byte) (s : State) : Out :=
  finish (logicA (· ^^^ ·) (.mem (.srIndY o)) s)

/-- EOR 55: R264, dpX R158. -/
def execEorDpX (o : Byte) (s : State) : Out :=
  finish (logicA (· ^^^ ·) (.mem (.dpX o)) s)

/-- EOR 57: R264, dpIndLY R169. -/
def execEorDpIndLY (o : Byte) (s : State) : Out :=
  finish (logicA (· ^^^ ·) (.mem (.dpIndLY o)) s)

/-- EOR 59: R264, absY R162. -/
def execEorAbsY (a16 : Word) (s : State) : Out :=
  finish (logicA (· ^^^ ·) (.mem (.absY a16)) s)

/-- EOR 5D: R264, absX R161. -/
def execEorAbsX (a16 : Word) (s : State) : Out :=
  finish (logicA (· ^^^ ·) (.mem (.absX a16)) s)

/-- EOR 5F: R264, longX R164. -/
def execEorLongX (a24 : Addr) (s : State) : Out :=
  finish (logicA (· ^^^ ·) (.mem (.longX a24)) s)

/-- BIT 24: R265, dp R157. -/
def execBitDp (o : Byte) (s : State) : Out :=
  finish (bitMemory (.dp o) s)

/-- BIT 2C: R265, abs R160. -/
def execBitAbs (a16 : Word) (s : State) : Out :=
  finish (bitMemory (.abs a16) s)

/-- BIT 34: R265, dpX R158. -/
def execBitDpX (o : Byte) (s : State) : Out :=
  finish (bitMemory (.dpX o) s)

/-- BIT 3C: R265, absX R161. -/
def execBitAbsX (a16 : Word) (s : State) : Out :=
  finish (bitMemory (.absX a16) s)

/-- BIT 89: R265, immM R156. -/
def execBitImmM (v : Imm) (s : State) : Out :=
  finish (bitImmediate v s)

/-- TSB 04: R266, dp R157. -/
def execTsbDp (o : Byte) (s : State) : Out :=
  finish (testAndModify (fun m a => m ||| a) (.dp o) s)

/-- TSB 0C: R266, abs R160. -/
def execTsbAbs (a16 : Word) (s : State) : Out :=
  finish (testAndModify (fun m a => m ||| a) (.abs a16) s)

/-- TRB 14: R267, dp R157. -/
def execTrbDp (o : Byte) (s : State) : Out :=
  finish (testAndModify (fun m a => m &&& ~~~a) (.dp o) s)

/-- TRB 1C: R267, abs R160. -/
def execTrbAbs (a16 : Word) (s : State) : Out :=
  finish (testAndModify (fun m a => m &&& ~~~a) (.abs a16) s)

end Sys2Proof.Machine
end

