-- ==== Sys2Proof/Machine/Shift.lean ====
section
/-! DEFINITION. Shifts and rotates (spec/42_arith_logic.md R268-R271). -/

namespace Sys2Proof.Machine

/-- A left shift (R268, R270): C takes the old sign bit before the write, N and Z follow the result after it. -/
def shiftLeftBy (cin : State → Bool) (dst : Dest) (s : State) : Res Unit :=
  readModifyWrite dst s.wM (fun v t => { t with p := { t.p with c := signBit s.wM v } })
    (fun v t => shiftLeft s.wM v (cin t)) (fun v t => t.setNZ v s.wM) s

/-- A right shift (R269, R271): C takes the old bit 0 before the write, N and Z follow the result after it. -/
def shiftRightBy (cin : State → Bool) (dst : Dest) (s : State) : Res Unit :=
  readModifyWrite dst s.wM (fun v t => { t with p := { t.p with c := v.getLsbD 0 } })
    (fun v t => shiftRight s.wM v (cin t)) (fun v t => t.setNZ v s.wM) s

/-- ASL 06: R268, dp R157. -/
def execAslDp (o : Byte) (s : State) : Out :=
  finish (shiftLeftBy (fun _ => false) (.mem (.dp o)) s)

/-- ASL 0A: R268, acc R172. -/
def execAslAcc (s : State) : Out :=
  finish (shiftLeftBy (fun _ => false) .acc s)

/-- ASL 0E: R268, abs R160. -/
def execAslAbs (a16 : Word) (s : State) : Out :=
  finish (shiftLeftBy (fun _ => false) (.mem (.abs a16)) s)

/-- ASL 16: R268, dpX R158. -/
def execAslDpX (o : Byte) (s : State) : Out :=
  finish (shiftLeftBy (fun _ => false) (.mem (.dpX o)) s)

/-- ASL 1E: R268, absX R161. -/
def execAslAbsX (a16 : Word) (s : State) : Out :=
  finish (shiftLeftBy (fun _ => false) (.mem (.absX a16)) s)

/-- LSR 46: R269, dp R157. -/
def execLsrDp (o : Byte) (s : State) : Out :=
  finish (shiftRightBy (fun _ => false) (.mem (.dp o)) s)

/-- LSR 4A: R269, acc R172. -/
def execLsrAcc (s : State) : Out :=
  finish (shiftRightBy (fun _ => false) .acc s)

/-- LSR 4E: R269, abs R160. -/
def execLsrAbs (a16 : Word) (s : State) : Out :=
  finish (shiftRightBy (fun _ => false) (.mem (.abs a16)) s)

/-- LSR 56: R269, dpX R158. -/
def execLsrDpX (o : Byte) (s : State) : Out :=
  finish (shiftRightBy (fun _ => false) (.mem (.dpX o)) s)

/-- LSR 5E: R269, absX R161. -/
def execLsrAbsX (a16 : Word) (s : State) : Out :=
  finish (shiftRightBy (fun _ => false) (.mem (.absX a16)) s)

/-- ROL 26: R270, dp R157. -/
def execRolDp (o : Byte) (s : State) : Out :=
  finish (shiftLeftBy (fun t => t.p.c) (.mem (.dp o)) s)

/-- ROL 2A: R270, acc R172. -/
def execRolAcc (s : State) : Out :=
  finish (shiftLeftBy (fun t => t.p.c) .acc s)

/-- ROL 2E: R270, abs R160. -/
def execRolAbs (a16 : Word) (s : State) : Out :=
  finish (shiftLeftBy (fun t => t.p.c) (.mem (.abs a16)) s)

/-- ROL 36: R270, dpX R158. -/
def execRolDpX (o : Byte) (s : State) : Out :=
  finish (shiftLeftBy (fun t => t.p.c) (.mem (.dpX o)) s)

/-- ROL 3E: R270, absX R161. -/
def execRolAbsX (a16 : Word) (s : State) : Out :=
  finish (shiftLeftBy (fun t => t.p.c) (.mem (.absX a16)) s)

/-- ROR 66: R271, dp R157. -/
def execRorDp (o : Byte) (s : State) : Out :=
  finish (shiftRightBy (fun t => t.p.c) (.mem (.dp o)) s)

/-- ROR 6A: R271, acc R172. -/
def execRorAcc (s : State) : Out :=
  finish (shiftRightBy (fun t => t.p.c) .acc s)

/-- ROR 6E: R271, abs R160. -/
def execRorAbs (a16 : Word) (s : State) : Out :=
  finish (shiftRightBy (fun t => t.p.c) (.mem (.abs a16)) s)

/-- ROR 76: R271, dpX R158. -/
def execRorDpX (o : Byte) (s : State) : Out :=
  finish (shiftRightBy (fun t => t.p.c) (.mem (.dpX o)) s)

/-- ROR 7E: R271, absX R161. -/
def execRorAbsX (a16 : Word) (s : State) : Out :=
  finish (shiftRightBy (fun t => t.p.c) (.mem (.absX a16)) s)

end Sys2Proof.Machine
end

