-- ==== Sys2Proof/Machine/Stack.lean ====
section
/-! DEFINITION. Pushes and pulls (spec/44_stack_flags_system.md R340-R355). -/

namespace Sys2Proof.Machine

/-- PLA (R350): `setA(v); setNZ(v, wM)` of the value popped at wM. -/
def pullA (s : State) : Res Unit :=
  (popAt s.wM s).bind fun v s1 => .ok () ((s1.setA v).setNZ v s1.wM)

/-- PLX (R351). -/
def pullX (s : State) : Res Unit :=
  (popAt s.wX s).bind fun v s1 => .ok () ((s1.setX v).setNZ v s1.wX)

/-- PLY (R353). -/
def pullY (s : State) : Res Unit :=
  (popAt s.wX s).bind fun v s1 => .ok () ((s1.setY v).setNZ v s1.wX)

/-- PLB (R354). -/
def pullDbr (s : State) : Res Unit :=
  (pop8 s).bind fun v s1 => .ok () ({ s1 with dbr := v }.setNZ (zext8 v) .w8)

/-- PLD (R355). -/
def pullD (s : State) : Res Unit :=
  (pop16 s).bind fun v s1 => .ok () ({ s1 with d := v }.setNZ v .w16)

/-- PEI (R348): the word at the direct-page address, pushed as a value. -/
def pushIndirect (o : Byte) (s : State) : Res Unit :=
  (readWord (dpAddr (zext8 o) s) s).bind fun v s1 => push16 v s1

/-- PHA 48: R340. -/
def execPha (s : State) : Out :=
  finish (pushAt s.wM s.a s)

/-- PHX DA: R341. -/
def execPhx (s : State) : Out :=
  finish (pushAt s.wX s.x s)

/-- PHY 5A: R342. -/
def execPhy (s : State) : Out :=
  finish (pushAt s.wX s.y s)

/-- PHP 08: R343. -/
def execPhp (s : State) : Out :=
  finish (push8 s.p.toByte s)

/-- PHB 8B: R344. -/
def execPhb (s : State) : Out :=
  finish (push8 s.dbr s)

/-- PHK 4B: R345. -/
def execPhk (s : State) : Out :=
  finish (push8 s.k s)

/-- PHD 0B: R346. -/
def execPhd (s : State) : Out :=
  finish (push16 s.d s)

/-- PEA F4: R347, imm16 R182. -/
def execPea (v : Word) (s : State) : Out :=
  finish (push16 v s)

/-- PEI D4: R348, peiDp R183. -/
def execPei (o : Byte) (s : State) : Out :=
  finish (pushIndirect o s)

/-- PER 62: R349, rel16 R175. -/
def execPer (r16 : Word) (s : State) : Out :=
  finish (push16 (rel16Target r16 s) s)

/-- PLA 68: R350. -/
def execPla (s : State) : Out :=
  finish (pullA s)

/-- PLX FA: R351. -/
def execPlx (s : State) : Out :=
  finish (pullX s)

/-- PLP 28: R352. -/
def execPlp (s : State) : Out :=
  finish ((pop8 s).bind fun v s1 => .ok () (s1.writeP v))

/-- PLY 7A: R353. -/
def execPly (s : State) : Out :=
  finish (pullY s)

/-- PLB AB: R354. -/
def execPlb (s : State) : Out :=
  finish (pullDbr s)

/-- PLD 2B: R355. -/
def execPld (s : State) : Out :=
  finish (pullD s)

end Sys2Proof.Machine
end

