-- ==== Sys2Proof/Machine/System.lean ====
section
/-! DEFINITION. Flag and system instructions (spec/44_stack_flags_system.md R360-R386). -/

namespace Sys2Proof.Machine

/-- XCE (R370): C and E are exchanged; entering emulation mode forces M, X, XH, YH and SH (R31). -/
def State.exchangeCE (s : State) : State :=
  let s1 := { s with p := { s.p with c := s.e }, e := s.p.c }
  if s1.e then s1.enterEmulation else s1

/-- CLC 18: R360. -/
def execClc (s : State) : Out :=
  .next { s with p := { s.p with c := false } }

/-- SEC 38: R361. -/
def execSec (s : State) : Out :=
  .next { s with p := { s.p with c := true } }

/-- CLI 58: R362. -/
def execCli (s : State) : Out :=
  .next { s with p := { s.p with i := false } }

/-- SEI 78: R363. -/
def execSei (s : State) : Out :=
  .next { s with p := { s.p with i := true } }

/-- CLD D8: R364. -/
def execCld (s : State) : Out :=
  .next { s with p := { s.p with d := false } }

/-- REP C2: R365, imm8 R156. -/
def execRep (mask : Byte) (s : State) : Out :=
  .next (s.writeP (s.p.toByte &&& ~~~mask))

/-- SEP E2: R366, imm8 R156. -/
def execSep (mask : Byte) (s : State) : Out :=
  .next (s.writeP (s.p.toByte ||| mask))

/-- SED F8: R367. -/
def execSed (s : State) : Out :=
  .next { s with p := { s.p with d := true } }

/-- CLV B8: R368. -/
def execClv (s : State) : Out :=
  .next { s with p := { s.p with v := false } }

/-- XCE FB: R370. -/
def execXce (s : State) : Out :=
  .next s.exchangeCE

/-- BRK 00: R380, sig R156. -/
def execBrk (_sig : Byte) (s : State) : Out :=
  finish (enter .brk s)

/-- RTI 40: R381. -/
def execRti (s : State) : Out :=
  finish (returnFromInterrupt s)

/-- COP 02: R382, sig R156. -/
def execCop (_sig : Byte) (s : State) : Out :=
  finish (enter .cop s)

/-- WAI CB: R383. -/
def execWai (s : State) : Out :=
  .next { s with waiting := true }

/-- STP DB: R384. -/
def execStp (s : State) : Out :=
  .next { s with stopped := true }

/-- NOP EA: R385. -/
def execNop (s : State) : Out :=
  .next s

/-- WDM 42: R386, sig R156. -/
def execWdm (_sig : Byte) (s : State) : Out :=
  .next s

end Sys2Proof.Machine
end

