-- ==== Sys2Proof/Machine/Transfer.lean ====
section
/-! DEFINITION. Register transfers (spec/41_load_store_transfer.md R208, R210-R222): the source cell is read whole, the destination takes its
width from its own flag, and N and Z are those of the destination. -/

namespace Sys2Proof.Machine

/-- Transfer a 16-bit source into X, with N and Z at wX (R208). -/
def State.transferToX (s : State) (v : Word) : State :=
  let s1 := s.setX v
  s1.setNZ s1.getX s1.wX

/-- Transfer a 16-bit source into Y, with N and Z at wX (R208). -/
def State.transferToY (s : State) (v : Word) : State :=
  let s1 := s.setY v
  s1.setNZ s1.getY s1.wX

/-- Transfer a 16-bit source into A, with N and Z at wM (R208). -/
def State.transferToA (s : State) (v : Word) : State :=
  let s1 := s.setA v
  s1.setNZ s1.getA s1.wM

/-- Write the whole accumulator C16, with N and Z at 16 bits (R219, R221). -/
def State.transferToC16 (s : State) (v : Word) : State :=
  { s with a := v }.setNZ v .w16

/-- TAX AA: R210. -/
def execTax (s : State) : Out :=
  .next (s.transferToX s.a)

/-- TAY A8: R211. -/
def execTay (s : State) : Out :=
  .next (s.transferToY s.a)

/-- TXA 8A: R212. -/
def execTxa (s : State) : Out :=
  .next (s.transferToA s.x)

/-- TYA 98: R213. -/
def execTya (s : State) : Out :=
  .next (s.transferToA s.y)

/-- TXY 9B: R214. -/
def execTxy (s : State) : Out :=
  .next (s.transferToY s.x)

/-- TYX BB: R215. -/
def execTyx (s : State) : Out :=
  .next (s.transferToX s.y)

/-- TSX BA: R216. -/
def execTsx (s : State) : Out :=
  .next (s.transferToX s.sp)

/-- TXS 9A: R217. -/
def execTxs (s : State) : Out :=
  .next (s.setS s.x)

/-- TCS 1B: R218. -/
def execTcs (s : State) : Out :=
  .next (s.setS s.a)

/-- TSC 3B: R219. -/
def execTsc (s : State) : Out :=
  .next (s.transferToC16 s.sp)

/-- TCD 5B: R220. -/
def execTcd (s : State) : Out :=
  .next ({ s with d := s.a }.setNZ s.a .w16)

/-- TDC 7B: R221. -/
def execTdc (s : State) : Out :=
  .next (s.transferToC16 s.d)

/-- XBA EB: R222. -/
def execXba (s : State) : Out :=
  .next ({ s with a := mkWord (loByte s.a) (hiByte s.a) }.setNZ (zext8 (hiByte s.a)) .w8)

end Sys2Proof.Machine
end

