-- ==== Sys2Proof/Machine/Dispatch.lean ====
section
/-! DEFINITION. The meaning of every instruction, one arm for each constructor. -/

namespace Sys2Proof.Machine

def exec (i : Instr) (s : State) : Host.Outcome State Fault Refusal :=
  match i with
  | .ldaDpIndX o => Sys2Proof.Machine.execLdaDpIndX o s
  | .ldaSr o => Sys2Proof.Machine.execLdaSr o s
  | .ldaDp o => Sys2Proof.Machine.execLdaDp o s
  | .ldaDpIndL o => Sys2Proof.Machine.execLdaDpIndL o s
  | .ldaImmM v => Sys2Proof.Machine.execLdaImmM v s
  | .ldaAbs a16 => Sys2Proof.Machine.execLdaAbs a16 s
  | .ldaLong a24 => Sys2Proof.Machine.execLdaLong a24 s
  | .ldaDpIndY o => Sys2Proof.Machine.execLdaDpIndY o s
  | .ldaDpInd o => Sys2Proof.Machine.execLdaDpInd o s
  | .ldaSrIndY o => Sys2Proof.Machine.execLdaSrIndY o s
  | .ldaDpX o => Sys2Proof.Machine.execLdaDpX o s
  | .ldaDpIndLY o => Sys2Proof.Machine.execLdaDpIndLY o s
  | .ldaAbsY a16 => Sys2Proof.Machine.execLdaAbsY a16 s
  | .ldaAbsX a16 => Sys2Proof.Machine.execLdaAbsX a16 s
  | .ldaLongX a24 => Sys2Proof.Machine.execLdaLongX a24 s
  | .ldxImmX v => Sys2Proof.Machine.execLdxImmX v s
  | .ldxDp o => Sys2Proof.Machine.execLdxDp o s
  | .ldxAbs a16 => Sys2Proof.Machine.execLdxAbs a16 s
  | .ldxDpY o => Sys2Proof.Machine.execLdxDpY o s
  | .ldxAbsY a16 => Sys2Proof.Machine.execLdxAbsY a16 s
  | .ldyImmX v => Sys2Proof.Machine.execLdyImmX v s
  | .ldyDp o => Sys2Proof.Machine.execLdyDp o s
  | .ldyAbs a16 => Sys2Proof.Machine.execLdyAbs a16 s
  | .ldyDpX o => Sys2Proof.Machine.execLdyDpX o s
  | .ldyAbsX a16 => Sys2Proof.Machine.execLdyAbsX a16 s
  | .staDpIndX o => Sys2Proof.Machine.execStaDpIndX o s
  | .staSr o => Sys2Proof.Machine.execStaSr o s
  | .staDp o => Sys2Proof.Machine.execStaDp o s
  | .staDpIndL o => Sys2Proof.Machine.execStaDpIndL o s
  | .staAbs a16 => Sys2Proof.Machine.execStaAbs a16 s
  | .staLong a24 => Sys2Proof.Machine.execStaLong a24 s
  | .staDpIndY o => Sys2Proof.Machine.execStaDpIndY o s
  | .staDpInd o => Sys2Proof.Machine.execStaDpInd o s
  | .staSrIndY o => Sys2Proof.Machine.execStaSrIndY o s
  | .staDpX o => Sys2Proof.Machine.execStaDpX o s
  | .staDpIndLY o => Sys2Proof.Machine.execStaDpIndLY o s
  | .staAbsY a16 => Sys2Proof.Machine.execStaAbsY a16 s
  | .staAbsX a16 => Sys2Proof.Machine.execStaAbsX a16 s
  | .staLongX a24 => Sys2Proof.Machine.execStaLongX a24 s
  | .stxDp o => Sys2Proof.Machine.execStxDp o s
  | .stxAbs a16 => Sys2Proof.Machine.execStxAbs a16 s
  | .stxDpY o => Sys2Proof.Machine.execStxDpY o s
  | .styDp o => Sys2Proof.Machine.execStyDp o s
  | .styAbs a16 => Sys2Proof.Machine.execStyAbs a16 s
  | .styDpX o => Sys2Proof.Machine.execStyDpX o s
  | .stzDp o => Sys2Proof.Machine.execStzDp o s
  | .stzDpX o => Sys2Proof.Machine.execStzDpX o s
  | .stzAbs a16 => Sys2Proof.Machine.execStzAbs a16 s
  | .stzAbsX a16 => Sys2Proof.Machine.execStzAbsX a16 s
  | .tax => Sys2Proof.Machine.execTax s
  | .tay => Sys2Proof.Machine.execTay s
  | .txa => Sys2Proof.Machine.execTxa s
  | .tya => Sys2Proof.Machine.execTya s
  | .txy => Sys2Proof.Machine.execTxy s
  | .tyx => Sys2Proof.Machine.execTyx s
  | .tsx => Sys2Proof.Machine.execTsx s
  | .txs => Sys2Proof.Machine.execTxs s
  | .tcs => Sys2Proof.Machine.execTcs s
  | .tsc => Sys2Proof.Machine.execTsc s
  | .tcd => Sys2Proof.Machine.execTcd s
  | .tdc => Sys2Proof.Machine.execTdc s
  | .xba => Sys2Proof.Machine.execXba s
  | .mvn dbk sbk => Sys2Proof.Machine.execMvn dbk sbk s
  | .mvp dbk sbk => Sys2Proof.Machine.execMvp dbk sbk s
  | .adcDpIndX o => Sys2Proof.Machine.execAdcDpIndX o s
  | .adcSr o => Sys2Proof.Machine.execAdcSr o s
  | .adcDp o => Sys2Proof.Machine.execAdcDp o s
  | .adcDpIndL o => Sys2Proof.Machine.execAdcDpIndL o s
  | .adcImmM v => Sys2Proof.Machine.execAdcImmM v s
  | .adcAbs a16 => Sys2Proof.Machine.execAdcAbs a16 s
  | .adcLong a24 => Sys2Proof.Machine.execAdcLong a24 s
  | .adcDpIndY o => Sys2Proof.Machine.execAdcDpIndY o s
  | .adcDpInd o => Sys2Proof.Machine.execAdcDpInd o s
  | .adcSrIndY o => Sys2Proof.Machine.execAdcSrIndY o s
  | .adcDpX o => Sys2Proof.Machine.execAdcDpX o s
  | .adcDpIndLY o => Sys2Proof.Machine.execAdcDpIndLY o s
  | .adcAbsY a16 => Sys2Proof.Machine.execAdcAbsY a16 s
  | .adcAbsX a16 => Sys2Proof.Machine.execAdcAbsX a16 s
  | .adcLongX a24 => Sys2Proof.Machine.execAdcLongX a24 s
  | .sbcDpIndX o => Sys2Proof.Machine.execSbcDpIndX o s
  | .sbcSr o => Sys2Proof.Machine.execSbcSr o s
  | .sbcDp o => Sys2Proof.Machine.execSbcDp o s
  | .sbcDpIndL o => Sys2Proof.Machine.execSbcDpIndL o s
  | .sbcImmM v => Sys2Proof.Machine.execSbcImmM v s
  | .sbcAbs a16 => Sys2Proof.Machine.execSbcAbs a16 s
  | .sbcLong a24 => Sys2Proof.Machine.execSbcLong a24 s
  | .sbcDpIndY o => Sys2Proof.Machine.execSbcDpIndY o s
  | .sbcDpInd o => Sys2Proof.Machine.execSbcDpInd o s
  | .sbcSrIndY o => Sys2Proof.Machine.execSbcSrIndY o s
  | .sbcDpX o => Sys2Proof.Machine.execSbcDpX o s
  | .sbcDpIndLY o => Sys2Proof.Machine.execSbcDpIndLY o s
  | .sbcAbsY a16 => Sys2Proof.Machine.execSbcAbsY a16 s
  | .sbcAbsX a16 => Sys2Proof.Machine.execSbcAbsX a16 s
  | .sbcLongX a24 => Sys2Proof.Machine.execSbcLongX a24 s
  | .cmpDpIndX o => Sys2Proof.Machine.execCmpDpIndX o s
  | .cmpSr o => Sys2Proof.Machine.execCmpSr o s
  | .cmpDp o => Sys2Proof.Machine.execCmpDp o s
  | .cmpDpIndL o => Sys2Proof.Machine.execCmpDpIndL o s
  | .cmpImmM v => Sys2Proof.Machine.execCmpImmM v s
  | .cmpAbs a16 => Sys2Proof.Machine.execCmpAbs a16 s
  | .cmpLong a24 => Sys2Proof.Machine.execCmpLong a24 s
  | .cmpDpIndY o => Sys2Proof.Machine.execCmpDpIndY o s
  | .cmpDpInd o => Sys2Proof.Machine.execCmpDpInd o s
  | .cmpSrIndY o => Sys2Proof.Machine.execCmpSrIndY o s
  | .cmpDpX o => Sys2Proof.Machine.execCmpDpX o s
  | .cmpDpIndLY o => Sys2Proof.Machine.execCmpDpIndLY o s
  | .cmpAbsY a16 => Sys2Proof.Machine.execCmpAbsY a16 s
  | .cmpAbsX a16 => Sys2Proof.Machine.execCmpAbsX a16 s
  | .cmpLongX a24 => Sys2Proof.Machine.execCmpLongX a24 s
  | .cpxImmX v => Sys2Proof.Machine.execCpxImmX v s
  | .cpxDp o => Sys2Proof.Machine.execCpxDp o s
  | .cpxAbs a16 => Sys2Proof.Machine.execCpxAbs a16 s
  | .cpyImmX v => Sys2Proof.Machine.execCpyImmX v s
  | .cpyDp o => Sys2Proof.Machine.execCpyDp o s
  | .cpyAbs a16 => Sys2Proof.Machine.execCpyAbs a16 s
  | .incAcc => Sys2Proof.Machine.execIncAcc s
  | .incDp o => Sys2Proof.Machine.execIncDp o s
  | .incAbs a16 => Sys2Proof.Machine.execIncAbs a16 s
  | .incDpX o => Sys2Proof.Machine.execIncDpX o s
  | .incAbsX a16 => Sys2Proof.Machine.execIncAbsX a16 s
  | .decAcc => Sys2Proof.Machine.execDecAcc s
  | .decDp o => Sys2Proof.Machine.execDecDp o s
  | .decAbs a16 => Sys2Proof.Machine.execDecAbs a16 s
  | .decDpX o => Sys2Proof.Machine.execDecDpX o s
  | .decAbsX a16 => Sys2Proof.Machine.execDecAbsX a16 s
  | .inx => Sys2Proof.Machine.execInx s
  | .iny => Sys2Proof.Machine.execIny s
  | .dex => Sys2Proof.Machine.execDex s
  | .dey => Sys2Proof.Machine.execDey s
  | .andDpIndX o => Sys2Proof.Machine.execAndDpIndX o s
  | .andSr o => Sys2Proof.Machine.execAndSr o s
  | .andDp o => Sys2Proof.Machine.execAndDp o s
  | .andDpIndL o => Sys2Proof.Machine.execAndDpIndL o s
  | .andImmM v => Sys2Proof.Machine.execAndImmM v s
  | .andAbs a16 => Sys2Proof.Machine.execAndAbs a16 s
  | .andLong a24 => Sys2Proof.Machine.execAndLong a24 s
  | .andDpIndY o => Sys2Proof.Machine.execAndDpIndY o s
  | .andDpInd o => Sys2Proof.Machine.execAndDpInd o s
  | .andSrIndY o => Sys2Proof.Machine.execAndSrIndY o s
  | .andDpX o => Sys2Proof.Machine.execAndDpX o s
  | .andDpIndLY o => Sys2Proof.Machine.execAndDpIndLY o s
  | .andAbsY a16 => Sys2Proof.Machine.execAndAbsY a16 s
  | .andAbsX a16 => Sys2Proof.Machine.execAndAbsX a16 s
  | .andLongX a24 => Sys2Proof.Machine.execAndLongX a24 s
  | .oraDpIndX o => Sys2Proof.Machine.execOraDpIndX o s
  | .oraSr o => Sys2Proof.Machine.execOraSr o s
  | .oraDp o => Sys2Proof.Machine.execOraDp o s
  | .oraDpIndL o => Sys2Proof.Machine.execOraDpIndL o s
  | .oraImmM v => Sys2Proof.Machine.execOraImmM v s
  | .oraAbs a16 => Sys2Proof.Machine.execOraAbs a16 s
  | .oraLong a24 => Sys2Proof.Machine.execOraLong a24 s
  | .oraDpIndY o => Sys2Proof.Machine.execOraDpIndY o s
  | .oraDpInd o => Sys2Proof.Machine.execOraDpInd o s
  | .oraSrIndY o => Sys2Proof.Machine.execOraSrIndY o s
  | .oraDpX o => Sys2Proof.Machine.execOraDpX o s
  | .oraDpIndLY o => Sys2Proof.Machine.execOraDpIndLY o s
  | .oraAbsY a16 => Sys2Proof.Machine.execOraAbsY a16 s
  | .oraAbsX a16 => Sys2Proof.Machine.execOraAbsX a16 s
  | .oraLongX a24 => Sys2Proof.Machine.execOraLongX a24 s
  | .eorDpIndX o => Sys2Proof.Machine.execEorDpIndX o s
  | .eorSr o => Sys2Proof.Machine.execEorSr o s
  | .eorDp o => Sys2Proof.Machine.execEorDp o s
  | .eorDpIndL o => Sys2Proof.Machine.execEorDpIndL o s
  | .eorImmM v => Sys2Proof.Machine.execEorImmM v s
  | .eorAbs a16 => Sys2Proof.Machine.execEorAbs a16 s
  | .eorLong a24 => Sys2Proof.Machine.execEorLong a24 s
  | .eorDpIndY o => Sys2Proof.Machine.execEorDpIndY o s
  | .eorDpInd o => Sys2Proof.Machine.execEorDpInd o s
  | .eorSrIndY o => Sys2Proof.Machine.execEorSrIndY o s
  | .eorDpX o => Sys2Proof.Machine.execEorDpX o s
  | .eorDpIndLY o => Sys2Proof.Machine.execEorDpIndLY o s
  | .eorAbsY a16 => Sys2Proof.Machine.execEorAbsY a16 s
  | .eorAbsX a16 => Sys2Proof.Machine.execEorAbsX a16 s
  | .eorLongX a24 => Sys2Proof.Machine.execEorLongX a24 s
  | .bitDp o => Sys2Proof.Machine.execBitDp o s
  | .bitAbs a16 => Sys2Proof.Machine.execBitAbs a16 s
  | .bitDpX o => Sys2Proof.Machine.execBitDpX o s
  | .bitAbsX a16 => Sys2Proof.Machine.execBitAbsX a16 s
  | .bitImmM v => Sys2Proof.Machine.execBitImmM v s
  | .tsbDp o => Sys2Proof.Machine.execTsbDp o s
  | .tsbAbs a16 => Sys2Proof.Machine.execTsbAbs a16 s
  | .trbDp o => Sys2Proof.Machine.execTrbDp o s
  | .trbAbs a16 => Sys2Proof.Machine.execTrbAbs a16 s
  | .aslDp o => Sys2Proof.Machine.execAslDp o s
  | .aslAcc => Sys2Proof.Machine.execAslAcc s
  | .aslAbs a16 => Sys2Proof.Machine.execAslAbs a16 s
  | .aslDpX o => Sys2Proof.Machine.execAslDpX o s
  | .aslAbsX a16 => Sys2Proof.Machine.execAslAbsX a16 s
  | .lsrDp o => Sys2Proof.Machine.execLsrDp o s
  | .lsrAcc => Sys2Proof.Machine.execLsrAcc s
  | .lsrAbs a16 => Sys2Proof.Machine.execLsrAbs a16 s
  | .lsrDpX o => Sys2Proof.Machine.execLsrDpX o s
  | .lsrAbsX a16 => Sys2Proof.Machine.execLsrAbsX a16 s
  | .rolDp o => Sys2Proof.Machine.execRolDp o s
  | .rolAcc => Sys2Proof.Machine.execRolAcc s
  | .rolAbs a16 => Sys2Proof.Machine.execRolAbs a16 s
  | .rolDpX o => Sys2Proof.Machine.execRolDpX o s
  | .rolAbsX a16 => Sys2Proof.Machine.execRolAbsX a16 s
  | .rorDp o => Sys2Proof.Machine.execRorDp o s
  | .rorAcc => Sys2Proof.Machine.execRorAcc s
  | .rorAbs a16 => Sys2Proof.Machine.execRorAbs a16 s
  | .rorDpX o => Sys2Proof.Machine.execRorDpX o s
  | .rorAbsX a16 => Sys2Proof.Machine.execRorAbsX a16 s
  | .bpl r => Sys2Proof.Machine.execBpl r s
  | .bmi r => Sys2Proof.Machine.execBmi r s
  | .bvc r => Sys2Proof.Machine.execBvc r s
  | .bvs r => Sys2Proof.Machine.execBvs r s
  | .bcc r => Sys2Proof.Machine.execBcc r s
  | .bcs r => Sys2Proof.Machine.execBcs r s
  | .bne r => Sys2Proof.Machine.execBne r s
  | .beq r => Sys2Proof.Machine.execBeq r s
  | .bra r => Sys2Proof.Machine.execBra r s
  | .brl r16 => Sys2Proof.Machine.execBrl r16 s
  | .jmpAbsJ a16 => Sys2Proof.Machine.execJmpAbsJ a16 s
  | .jmpAbsInd a16 => Sys2Proof.Machine.execJmpAbsInd a16 s
  | .jmpAbsIndX a16 => Sys2Proof.Machine.execJmpAbsIndX a16 s
  | .jmlLongJ a24 => Sys2Proof.Machine.execJmlLongJ a24 s
  | .jmlAbsIndL a16 => Sys2Proof.Machine.execJmlAbsIndL a16 s
  | .jsrAbsJ a16 => Sys2Proof.Machine.execJsrAbsJ a16 s
  | .jsrAbsIndX a16 => Sys2Proof.Machine.execJsrAbsIndX a16 s
  | .jsl a24 => Sys2Proof.Machine.execJsl a24 s
  | .rts => Sys2Proof.Machine.execRts s
  | .rtl => Sys2Proof.Machine.execRtl s
  | .pha => Sys2Proof.Machine.execPha s
  | .phx => Sys2Proof.Machine.execPhx s
  | .phy => Sys2Proof.Machine.execPhy s
  | .php => Sys2Proof.Machine.execPhp s
  | .phb => Sys2Proof.Machine.execPhb s
  | .phk => Sys2Proof.Machine.execPhk s
  | .phd => Sys2Proof.Machine.execPhd s
  | .pea v => Sys2Proof.Machine.execPea v s
  | .pei o => Sys2Proof.Machine.execPei o s
  | .per r16 => Sys2Proof.Machine.execPer r16 s
  | .pla => Sys2Proof.Machine.execPla s
  | .plx => Sys2Proof.Machine.execPlx s
  | .plp => Sys2Proof.Machine.execPlp s
  | .ply => Sys2Proof.Machine.execPly s
  | .plb => Sys2Proof.Machine.execPlb s
  | .pld => Sys2Proof.Machine.execPld s
  | .clc => Sys2Proof.Machine.execClc s
  | .sec => Sys2Proof.Machine.execSec s
  | .cli => Sys2Proof.Machine.execCli s
  | .sei => Sys2Proof.Machine.execSei s
  | .cld => Sys2Proof.Machine.execCld s
  | .rep mask => Sys2Proof.Machine.execRep mask s
  | .sep mask => Sys2Proof.Machine.execSep mask s
  | .sed => Sys2Proof.Machine.execSed s
  | .clv => Sys2Proof.Machine.execClv s
  | .xce => Sys2Proof.Machine.execXce s
  | .brk sig => Sys2Proof.Machine.execBrk sig s
  | .rti => Sys2Proof.Machine.execRti s
  | .cop sig => Sys2Proof.Machine.execCop sig s
  | .wai => Sys2Proof.Machine.execWai s
  | .stp => Sys2Proof.Machine.execStp s
  | .nop => Sys2Proof.Machine.execNop s
  | .wdm sig => Sys2Proof.Machine.execWdm sig s

end Sys2Proof.Machine
end

