-- ==== Sys2Proof/WellFormed.lean ====
section
/-! DEFINITION. When an instruction is well-formed at the flags M and X: an immediate has the length they give it
(spec/30_encoding.md R124). Every other operand is bounded by its type. -/

namespace Sys2Proof

/-- The width of an immediate. -/
def Imm.width (v : Imm) : Width :=
  match v with
  | .b _ => .w8
  | .w _ => .w16

/-- The width a flag M or X selects (R23). -/
def widthOf (flag : Bool) : Width := if flag then .w8 else .w16

/-- An instruction can stand in the instruction stream while P.M = `m` and P.X = `x`: an accumulator-class immediate has the
width of M, an index-class immediate the width of X (R124). -/
def Instr.wellFormed (m x : Bool) (i : Instr) : Bool :=
  match i with
  | .ldaImmM v | .adcImmM v | .sbcImmM v | .cmpImmM v | .andImmM v | .oraImmM v | .eorImmM v | .bitImmM v => decide (v.width = widthOf m)
  | .ldxImmX v | .ldyImmX v | .cpxImmX v | .cpyImmX v => decide (v.width = widthOf x)
  | .ldaDpIndX _ | .ldaSr _ | .ldaDp _ | .ldaDpIndL _ | .ldaAbs _ | .ldaLong _ | .ldaDpIndY _ | .ldaDpInd _
  | .ldaSrIndY _ | .ldaDpX _ | .ldaDpIndLY _ | .ldaAbsY _ | .ldaAbsX _ | .ldaLongX _ | .ldxDp _ | .ldxAbs _
  | .ldxDpY _ | .ldxAbsY _ | .ldyDp _ | .ldyAbs _ | .ldyDpX _ | .ldyAbsX _ | .staDpIndX _ | .staSr _ | .staDp _
  | .staDpIndL _ | .staAbs _ | .staLong _ | .staDpIndY _ | .staDpInd _ | .staSrIndY _ | .staDpX _ | .staDpIndLY _
  | .staAbsY _ | .staAbsX _ | .staLongX _ | .stxDp _ | .stxAbs _ | .stxDpY _ | .styDp _ | .styAbs _ | .styDpX _
  | .stzDp _ | .stzDpX _ | .stzAbs _ | .stzAbsX _ | .tax | .tay | .txa | .tya | .txy | .tyx | .tsx | .txs | .tcs
  | .tsc | .tcd | .tdc | .xba | .mvn _ _ | .mvp _ _ | .adcDpIndX _ | .adcSr _ | .adcDp _ | .adcDpIndL _ | .adcAbs _
  | .adcLong _ | .adcDpIndY _ | .adcDpInd _ | .adcSrIndY _ | .adcDpX _ | .adcDpIndLY _ | .adcAbsY _ | .adcAbsX _
  | .adcLongX _ | .sbcDpIndX _ | .sbcSr _ | .sbcDp _ | .sbcDpIndL _ | .sbcAbs _ | .sbcLong _ | .sbcDpIndY _
  | .sbcDpInd _ | .sbcSrIndY _ | .sbcDpX _ | .sbcDpIndLY _ | .sbcAbsY _ | .sbcAbsX _ | .sbcLongX _ | .cmpDpIndX _
  | .cmpSr _ | .cmpDp _ | .cmpDpIndL _ | .cmpAbs _ | .cmpLong _ | .cmpDpIndY _ | .cmpDpInd _ | .cmpSrIndY _
  | .cmpDpX _ | .cmpDpIndLY _ | .cmpAbsY _ | .cmpAbsX _ | .cmpLongX _ | .cpxDp _ | .cpxAbs _ | .cpyDp _ | .cpyAbs _
  | .incAcc | .incDp _ | .incAbs _ | .incDpX _ | .incAbsX _ | .decAcc | .decDp _ | .decAbs _ | .decDpX _ | .decAbsX _
  | .inx | .iny | .dex | .dey | .andDpIndX _ | .andSr _ | .andDp _ | .andDpIndL _ | .andAbs _ | .andLong _
  | .andDpIndY _ | .andDpInd _ | .andSrIndY _ | .andDpX _ | .andDpIndLY _ | .andAbsY _ | .andAbsX _ | .andLongX _
  | .oraDpIndX _ | .oraSr _ | .oraDp _ | .oraDpIndL _ | .oraAbs _ | .oraLong _ | .oraDpIndY _ | .oraDpInd _
  | .oraSrIndY _ | .oraDpX _ | .oraDpIndLY _ | .oraAbsY _ | .oraAbsX _ | .oraLongX _ | .eorDpIndX _ | .eorSr _
  | .eorDp _ | .eorDpIndL _ | .eorAbs _ | .eorLong _ | .eorDpIndY _ | .eorDpInd _ | .eorSrIndY _ | .eorDpX _
  | .eorDpIndLY _ | .eorAbsY _ | .eorAbsX _ | .eorLongX _ | .bitDp _ | .bitAbs _ | .bitDpX _ | .bitAbsX _ | .tsbDp _
  | .tsbAbs _ | .trbDp _ | .trbAbs _ | .aslDp _ | .aslAcc | .aslAbs _ | .aslDpX _ | .aslAbsX _ | .lsrDp _ | .lsrAcc
  | .lsrAbs _ | .lsrDpX _ | .lsrAbsX _ | .rolDp _ | .rolAcc | .rolAbs _ | .rolDpX _ | .rolAbsX _ | .rorDp _ | .rorAcc
  | .rorAbs _ | .rorDpX _ | .rorAbsX _ | .bpl _ | .bmi _ | .bvc _ | .bvs _ | .bcc _ | .bcs _ | .bne _ | .beq _
  | .bra _ | .brl _ | .jmpAbsJ _ | .jmpAbsInd _ | .jmpAbsIndX _ | .jmlLongJ _ | .jmlAbsIndL _ | .jsrAbsJ _
  | .jsrAbsIndX _ | .jsl _ | .rts | .rtl | .pha | .phx | .phy | .php | .phb | .phk | .phd | .pea _ | .pei _ | .per _
  | .pla | .plx | .plp | .ply | .plb | .pld | .clc | .sec | .cli | .sei | .cld | .rep _ | .sep _ | .sed | .clv | .xce
  | .brk _ | .rti | .cop _ | .wai | .stp | .nop | .wdm _ => true

end Sys2Proof
end

