-- ==== Sys2Proof/Decode.lean ====
section
/-! DEFINITION. Decoding bytes to an instruction (spec/30_encoding.md R120-R129), and the encoder written from R123 and R128. -/

namespace Sys2Proof

/-- Why bytes do not decode. -/
inductive DecodeReject where
  /-- Fewer bytes than the instruction has. -/
  | truncated
  /-- An opcode with no table entry (R122). No opcode: all 256 are defined (R127). -/
  | noTableEntry (opcode : Byte)
deriving DecidableEq, Repr

/-- An entry of the opcode table: the operand bytes it takes (R123) and the instruction they make. -/
inductive Entry where
  | none0 (i : Instr)
  | byte (f : Byte → Instr)
  | word (f : Word → Instr)
  | long (f : Addr → Instr)
  | immM (f : Imm → Instr)
  | immX (f : Imm → Instr)
  | blk (f : Byte → Byte → Instr)

/-! The opcode map of R127, one definition for each row (the high nibble), one entry for each column (the low nibble). -/

def opcodeRow0 : List Entry :=
  [ .byte .brk, .byte .oraDpIndX, .byte .cop, .byte .oraSr,
    .byte .tsbDp, .byte .oraDp, .byte .aslDp, .byte .oraDpIndL,
    .none0 .php, .immM .oraImmM, .none0 .aslAcc, .none0 .phd,
    .word .tsbAbs, .word .oraAbs, .word .aslAbs, .long .oraLong ]

def opcodeRow1 : List Entry :=
  [ .byte .bpl, .byte .oraDpIndY, .byte .oraDpInd, .byte .oraSrIndY,
    .byte .trbDp, .byte .oraDpX, .byte .aslDpX, .byte .oraDpIndLY,
    .none0 .clc, .word .oraAbsY, .none0 .incAcc, .none0 .tcs,
    .word .trbAbs, .word .oraAbsX, .word .aslAbsX, .long .oraLongX ]

def opcodeRow2 : List Entry :=
  [ .word .jsrAbsJ, .byte .andDpIndX, .long .jsl, .byte .andSr,
    .byte .bitDp, .byte .andDp, .byte .rolDp, .byte .andDpIndL,
    .none0 .plp, .immM .andImmM, .none0 .rolAcc, .none0 .pld,
    .word .bitAbs, .word .andAbs, .word .rolAbs, .long .andLong ]

def opcodeRow3 : List Entry :=
  [ .byte .bmi, .byte .andDpIndY, .byte .andDpInd, .byte .andSrIndY,
    .byte .bitDpX, .byte .andDpX, .byte .rolDpX, .byte .andDpIndLY,
    .none0 .sec, .word .andAbsY, .none0 .decAcc, .none0 .tsc,
    .word .bitAbsX, .word .andAbsX, .word .rolAbsX, .long .andLongX ]

def opcodeRow4 : List Entry :=
  [ .none0 .rti, .byte .eorDpIndX, .byte .wdm, .byte .eorSr,
    .blk .mvp, .byte .eorDp, .byte .lsrDp, .byte .eorDpIndL,
    .none0 .pha, .immM .eorImmM, .none0 .lsrAcc, .none0 .phk,
    .word .jmpAbsJ, .word .eorAbs, .word .lsrAbs, .long .eorLong ]

def opcodeRow5 : List Entry :=
  [ .byte .bvc, .byte .eorDpIndY, .byte .eorDpInd, .byte .eorSrIndY,
    .blk .mvn, .byte .eorDpX, .byte .lsrDpX, .byte .eorDpIndLY,
    .none0 .cli, .word .eorAbsY, .none0 .phy, .none0 .tcd,
    .long .jmlLongJ, .word .eorAbsX, .word .lsrAbsX, .long .eorLongX ]

def opcodeRow6 : List Entry :=
  [ .none0 .rts, .byte .adcDpIndX, .word .per, .byte .adcSr,
    .byte .stzDp, .byte .adcDp, .byte .rorDp, .byte .adcDpIndL,
    .none0 .pla, .immM .adcImmM, .none0 .rorAcc, .none0 .rtl,
    .word .jmpAbsInd, .word .adcAbs, .word .rorAbs, .long .adcLong ]

def opcodeRow7 : List Entry :=
  [ .byte .bvs, .byte .adcDpIndY, .byte .adcDpInd, .byte .adcSrIndY,
    .byte .stzDpX, .byte .adcDpX, .byte .rorDpX, .byte .adcDpIndLY,
    .none0 .sei, .word .adcAbsY, .none0 .ply, .none0 .tdc,
    .word .jmpAbsIndX, .word .adcAbsX, .word .rorAbsX, .long .adcLongX ]

def opcodeRow8 : List Entry :=
  [ .byte .bra, .byte .staDpIndX, .word .brl, .byte .staSr,
    .byte .styDp, .byte .staDp, .byte .stxDp, .byte .staDpIndL,
    .none0 .dey, .immM .bitImmM, .none0 .txa, .none0 .phb,
    .word .styAbs, .word .staAbs, .word .stxAbs, .long .staLong ]

def opcodeRow9 : List Entry :=
  [ .byte .bcc, .byte .staDpIndY, .byte .staDpInd, .byte .staSrIndY,
    .byte .styDpX, .byte .staDpX, .byte .stxDpY, .byte .staDpIndLY,
    .none0 .tya, .word .staAbsY, .none0 .txs, .none0 .txy,
    .word .stzAbs, .word .staAbsX, .word .stzAbsX, .long .staLongX ]

def opcodeRowA : List Entry :=
  [ .immX .ldyImmX, .byte .ldaDpIndX, .immX .ldxImmX, .byte .ldaSr,
    .byte .ldyDp, .byte .ldaDp, .byte .ldxDp, .byte .ldaDpIndL,
    .none0 .tay, .immM .ldaImmM, .none0 .tax, .none0 .plb,
    .word .ldyAbs, .word .ldaAbs, .word .ldxAbs, .long .ldaLong ]

def opcodeRowB : List Entry :=
  [ .byte .bcs, .byte .ldaDpIndY, .byte .ldaDpInd, .byte .ldaSrIndY,
    .byte .ldyDpX, .byte .ldaDpX, .byte .ldxDpY, .byte .ldaDpIndLY,
    .none0 .clv, .word .ldaAbsY, .none0 .tsx, .none0 .tyx,
    .word .ldyAbsX, .word .ldaAbsX, .word .ldxAbsY, .long .ldaLongX ]

def opcodeRowC : List Entry :=
  [ .immX .cpyImmX, .byte .cmpDpIndX, .byte .rep, .byte .cmpSr,
    .byte .cpyDp, .byte .cmpDp, .byte .decDp, .byte .cmpDpIndL,
    .none0 .iny, .immM .cmpImmM, .none0 .dex, .none0 .wai,
    .word .cpyAbs, .word .cmpAbs, .word .decAbs, .long .cmpLong ]

def opcodeRowD : List Entry :=
  [ .byte .bne, .byte .cmpDpIndY, .byte .cmpDpInd, .byte .cmpSrIndY,
    .byte .pei, .byte .cmpDpX, .byte .decDpX, .byte .cmpDpIndLY,
    .none0 .cld, .word .cmpAbsY, .none0 .phx, .none0 .stp,
    .word .jmlAbsIndL, .word .cmpAbsX, .word .decAbsX, .long .cmpLongX ]

def opcodeRowE : List Entry :=
  [ .immX .cpxImmX, .byte .sbcDpIndX, .byte .sep, .byte .sbcSr,
    .byte .cpxDp, .byte .sbcDp, .byte .incDp, .byte .sbcDpIndL,
    .none0 .inx, .immM .sbcImmM, .none0 .nop, .none0 .xba,
    .word .cpxAbs, .word .sbcAbs, .word .incAbs, .long .sbcLong ]

def opcodeRowF : List Entry :=
  [ .byte .beq, .byte .sbcDpIndY, .byte .sbcDpInd, .byte .sbcSrIndY,
    .word .pea, .byte .sbcDpX, .byte .incDpX, .byte .sbcDpIndLY,
    .none0 .sed, .word .sbcAbsY, .none0 .plx, .none0 .xce,
    .word .jsrAbsIndX, .word .sbcAbsX, .word .incAbsX, .long .sbcLongX ]

/-- The opcode table (R127). -/
def opcodeRows : List (List Entry) :=
  [ opcodeRow0, opcodeRow1, opcodeRow2, opcodeRow3, opcodeRow4, opcodeRow5, opcodeRow6, opcodeRow7,
    opcodeRow8, opcodeRow9, opcodeRowA, opcodeRowB, opcodeRowC, opcodeRowD, opcodeRowE, opcodeRowF ]

/-- The table entry of an opcode byte (R122). -/
def opcodeEntry (op : Byte) : Option Entry :=
  match opcodeRows[op.toNat / 16]? with
  | some row => row[op.toNat % 16]?
  | none => none

/-- How many operand bytes an entry takes, given P.M and P.X (R123, R124, R126). -/
def Entry.operandCount (m x : Bool) (en : Entry) : Nat :=
  match en with
  | .none0 _ => 0
  | .byte _ => 1
  | .word _ => 2
  | .long _ => 3
  | .immM _ => (widthOf m).bytes
  | .immX _ => (widthOf x).bytes
  | .blk _ => 2

/-- The immediate that the first bytes hold at a width, with the bytes after it (R125). -/
def decodeImm (w : Width) (bytes : List Byte) : Except DecodeReject (Imm × List Byte) :=
  match w, bytes with
  | .w8, b1 :: rest => .ok (.b b1, rest)
  | .w16, b1 :: b2 :: rest => .ok (.w (mkWord b2 b1), rest)
  | _, _ => .error .truncated

/-- Operand assembly (R125): the instruction of an entry, with the bytes after its operand bytes. -/
def Entry.assemble (m x : Bool) (en : Entry) (bytes : List Byte) : Except DecodeReject (Instr × List Byte) :=
  match en, bytes with
  | .none0 i, rest => .ok (i, rest)
  | .byte f, b1 :: rest => .ok (f b1, rest)
  | .word f, b1 :: b2 :: rest => .ok (f (mkWord b2 b1), rest)
  | .long f, b1 :: b2 :: b3 :: rest => .ok (f (mkAddr b3 (mkWord b2 b1)), rest)
  | .blk f, b1 :: b2 :: rest => .ok (f b1 b2, rest)
  | .immM f, bytes => (decodeImm (widthOf m) bytes).map fun r => (f r.1, r.2)
  | .immX f, bytes => (decodeImm (widthOf x) bytes).map fun r => (f r.1, r.2)
  | _, _ => .error .truncated

/-- The decoder (R122): the instruction at the head of the bytes while P.M = `m` and P.X = `x`, and the bytes after it. -/
def decode (m x : Bool) (bytes : List Byte) : Except DecodeReject (Instr × List Byte) :=
  match bytes with
  | [] => .error .truncated
  | op :: rest =>
    match opcodeEntry op with
    | some en => en.assemble m x rest
    | none => .error (.noTableEntry op)

/-- The four bytes an opcode-table number stands for, the first in bits 7-0, with nothing above its `nbits` bits. -/
def tableBytes (nbits w : Nat) : List Byte :=
  let v := w % 2 ^ nbits
  [BitVec.ofNat 8 v, BitVec.ofNat 8 (v / 0x100), BitVec.ofNat 8 (v / 0x10000), BitVec.ofNat 8 (v / 0x1000000)]

/-- The instruction the decoder reads from an opcode-table number, at M = X = 1, their values after reset (R48). -/
def decodeTableWord (nbits w : Nat) : Option Instr :=
  match decode true true (tableBytes nbits w) with
  | .ok (i, _) => some i
  | .error _ => none

/-! ### The encoder -/

/-- The bytes of a 16-bit operand, low byte first (R86, R125). -/
def encWord (v : Word) : List Byte := [loByte v, hiByte v]

/-- The bytes of a 24-bit operand: low, high, bank (R86, R125). -/
def encAddr (v : Addr) : List Byte := [loByte (offOf v), hiByte (offOf v), bankOf v]

/-- The bytes of an immediate (R124, R125). -/
def Imm.enc (v : Imm) : List Byte :=
  match v with
  | .b v => [v]
  | .w v => encWord v

/-- The bytes of an instruction: the opcode of R128 and the operand bytes of R123. -/
def encode (i : Instr) : List Byte :=
  match i with
  | .ldaDpIndX o => [0xA1, o]
  | .ldaSr o => [0xA3, o]
  | .ldaDp o => [0xA5, o]
  | .ldaDpIndL o => [0xA7, o]
  | .ldaImmM v => 0xA9 :: v.enc
  | .ldaAbs a16 => 0xAD :: encWord a16
  | .ldaLong a24 => 0xAF :: encAddr a24
  | .ldaDpIndY o => [0xB1, o]
  | .ldaDpInd o => [0xB2, o]
  | .ldaSrIndY o => [0xB3, o]
  | .ldaDpX o => [0xB5, o]
  | .ldaDpIndLY o => [0xB7, o]
  | .ldaAbsY a16 => 0xB9 :: encWord a16
  | .ldaAbsX a16 => 0xBD :: encWord a16
  | .ldaLongX a24 => 0xBF :: encAddr a24
  | .ldxImmX v => 0xA2 :: v.enc
  | .ldxDp o => [0xA6, o]
  | .ldxAbs a16 => 0xAE :: encWord a16
  | .ldxDpY o => [0xB6, o]
  | .ldxAbsY a16 => 0xBE :: encWord a16
  | .ldyImmX v => 0xA0 :: v.enc
  | .ldyDp o => [0xA4, o]
  | .ldyAbs a16 => 0xAC :: encWord a16
  | .ldyDpX o => [0xB4, o]
  | .ldyAbsX a16 => 0xBC :: encWord a16
  | .staDpIndX o => [0x81, o]
  | .staSr o => [0x83, o]
  | .staDp o => [0x85, o]
  | .staDpIndL o => [0x87, o]
  | .staAbs a16 => 0x8D :: encWord a16
  | .staLong a24 => 0x8F :: encAddr a24
  | .staDpIndY o => [0x91, o]
  | .staDpInd o => [0x92, o]
  | .staSrIndY o => [0x93, o]
  | .staDpX o => [0x95, o]
  | .staDpIndLY o => [0x97, o]
  | .staAbsY a16 => 0x99 :: encWord a16
  | .staAbsX a16 => 0x9D :: encWord a16
  | .staLongX a24 => 0x9F :: encAddr a24
  | .stxDp o => [0x86, o]
  | .stxAbs a16 => 0x8E :: encWord a16
  | .stxDpY o => [0x96, o]
  | .styDp o => [0x84, o]
  | .styAbs a16 => 0x8C :: encWord a16
  | .styDpX o => [0x94, o]
  | .stzDp o => [0x64, o]
  | .stzDpX o => [0x74, o]
  | .stzAbs a16 => 0x9C :: encWord a16
  | .stzAbsX a16 => 0x9E :: encWord a16
  | .tax => [0xAA]
  | .tay => [0xA8]
  | .txa => [0x8A]
  | .tya => [0x98]
  | .txy => [0x9B]
  | .tyx => [0xBB]
  | .tsx => [0xBA]
  | .txs => [0x9A]
  | .tcs => [0x1B]
  | .tsc => [0x3B]
  | .tcd => [0x5B]
  | .tdc => [0x7B]
  | .xba => [0xEB]
  | .mvn dbk sbk => [0x54, dbk, sbk]
  | .mvp dbk sbk => [0x44, dbk, sbk]
  | .adcDpIndX o => [0x61, o]
  | .adcSr o => [0x63, o]
  | .adcDp o => [0x65, o]
  | .adcDpIndL o => [0x67, o]
  | .adcImmM v => 0x69 :: v.enc
  | .adcAbs a16 => 0x6D :: encWord a16
  | .adcLong a24 => 0x6F :: encAddr a24
  | .adcDpIndY o => [0x71, o]
  | .adcDpInd o => [0x72, o]
  | .adcSrIndY o => [0x73, o]
  | .adcDpX o => [0x75, o]
  | .adcDpIndLY o => [0x77, o]
  | .adcAbsY a16 => 0x79 :: encWord a16
  | .adcAbsX a16 => 0x7D :: encWord a16
  | .adcLongX a24 => 0x7F :: encAddr a24
  | .sbcDpIndX o => [0xE1, o]
  | .sbcSr o => [0xE3, o]
  | .sbcDp o => [0xE5, o]
  | .sbcDpIndL o => [0xE7, o]
  | .sbcImmM v => 0xE9 :: v.enc
  | .sbcAbs a16 => 0xED :: encWord a16
  | .sbcLong a24 => 0xEF :: encAddr a24
  | .sbcDpIndY o => [0xF1, o]
  | .sbcDpInd o => [0xF2, o]
  | .sbcSrIndY o => [0xF3, o]
  | .sbcDpX o => [0xF5, o]
  | .sbcDpIndLY o => [0xF7, o]
  | .sbcAbsY a16 => 0xF9 :: encWord a16
  | .sbcAbsX a16 => 0xFD :: encWord a16
  | .sbcLongX a24 => 0xFF :: encAddr a24
  | .cmpDpIndX o => [0xC1, o]
  | .cmpSr o => [0xC3, o]
  | .cmpDp o => [0xC5, o]
  | .cmpDpIndL o => [0xC7, o]
  | .cmpImmM v => 0xC9 :: v.enc
  | .cmpAbs a16 => 0xCD :: encWord a16
  | .cmpLong a24 => 0xCF :: encAddr a24
  | .cmpDpIndY o => [0xD1, o]
  | .cmpDpInd o => [0xD2, o]
  | .cmpSrIndY o => [0xD3, o]
  | .cmpDpX o => [0xD5, o]
  | .cmpDpIndLY o => [0xD7, o]
  | .cmpAbsY a16 => 0xD9 :: encWord a16
  | .cmpAbsX a16 => 0xDD :: encWord a16
  | .cmpLongX a24 => 0xDF :: encAddr a24
  | .cpxImmX v => 0xE0 :: v.enc
  | .cpxDp o => [0xE4, o]
  | .cpxAbs a16 => 0xEC :: encWord a16
  | .cpyImmX v => 0xC0 :: v.enc
  | .cpyDp o => [0xC4, o]
  | .cpyAbs a16 => 0xCC :: encWord a16
  | .incAcc => [0x1A]
  | .incDp o => [0xE6, o]
  | .incAbs a16 => 0xEE :: encWord a16
  | .incDpX o => [0xF6, o]
  | .incAbsX a16 => 0xFE :: encWord a16
  | .decAcc => [0x3A]
  | .decDp o => [0xC6, o]
  | .decAbs a16 => 0xCE :: encWord a16
  | .decDpX o => [0xD6, o]
  | .decAbsX a16 => 0xDE :: encWord a16
  | .inx => [0xE8]
  | .iny => [0xC8]
  | .dex => [0xCA]
  | .dey => [0x88]
  | .andDpIndX o => [0x21, o]
  | .andSr o => [0x23, o]
  | .andDp o => [0x25, o]
  | .andDpIndL o => [0x27, o]
  | .andImmM v => 0x29 :: v.enc
  | .andAbs a16 => 0x2D :: encWord a16
  | .andLong a24 => 0x2F :: encAddr a24
  | .andDpIndY o => [0x31, o]
  | .andDpInd o => [0x32, o]
  | .andSrIndY o => [0x33, o]
  | .andDpX o => [0x35, o]
  | .andDpIndLY o => [0x37, o]
  | .andAbsY a16 => 0x39 :: encWord a16
  | .andAbsX a16 => 0x3D :: encWord a16
  | .andLongX a24 => 0x3F :: encAddr a24
  | .oraDpIndX o => [0x01, o]
  | .oraSr o => [0x03, o]
  | .oraDp o => [0x05, o]
  | .oraDpIndL o => [0x07, o]
  | .oraImmM v => 0x09 :: v.enc
  | .oraAbs a16 => 0x0D :: encWord a16
  | .oraLong a24 => 0x0F :: encAddr a24
  | .oraDpIndY o => [0x11, o]
  | .oraDpInd o => [0x12, o]
  | .oraSrIndY o => [0x13, o]
  | .oraDpX o => [0x15, o]
  | .oraDpIndLY o => [0x17, o]
  | .oraAbsY a16 => 0x19 :: encWord a16
  | .oraAbsX a16 => 0x1D :: encWord a16
  | .oraLongX a24 => 0x1F :: encAddr a24
  | .eorDpIndX o => [0x41, o]
  | .eorSr o => [0x43, o]
  | .eorDp o => [0x45, o]
  | .eorDpIndL o => [0x47, o]
  | .eorImmM v => 0x49 :: v.enc
  | .eorAbs a16 => 0x4D :: encWord a16
  | .eorLong a24 => 0x4F :: encAddr a24
  | .eorDpIndY o => [0x51, o]
  | .eorDpInd o => [0x52, o]
  | .eorSrIndY o => [0x53, o]
  | .eorDpX o => [0x55, o]
  | .eorDpIndLY o => [0x57, o]
  | .eorAbsY a16 => 0x59 :: encWord a16
  | .eorAbsX a16 => 0x5D :: encWord a16
  | .eorLongX a24 => 0x5F :: encAddr a24
  | .bitDp o => [0x24, o]
  | .bitAbs a16 => 0x2C :: encWord a16
  | .bitDpX o => [0x34, o]
  | .bitAbsX a16 => 0x3C :: encWord a16
  | .bitImmM v => 0x89 :: v.enc
  | .tsbDp o => [0x04, o]
  | .tsbAbs a16 => 0x0C :: encWord a16
  | .trbDp o => [0x14, o]
  | .trbAbs a16 => 0x1C :: encWord a16
  | .aslDp o => [0x06, o]
  | .aslAcc => [0x0A]
  | .aslAbs a16 => 0x0E :: encWord a16
  | .aslDpX o => [0x16, o]
  | .aslAbsX a16 => 0x1E :: encWord a16
  | .lsrDp o => [0x46, o]
  | .lsrAcc => [0x4A]
  | .lsrAbs a16 => 0x4E :: encWord a16
  | .lsrDpX o => [0x56, o]
  | .lsrAbsX a16 => 0x5E :: encWord a16
  | .rolDp o => [0x26, o]
  | .rolAcc => [0x2A]
  | .rolAbs a16 => 0x2E :: encWord a16
  | .rolDpX o => [0x36, o]
  | .rolAbsX a16 => 0x3E :: encWord a16
  | .rorDp o => [0x66, o]
  | .rorAcc => [0x6A]
  | .rorAbs a16 => 0x6E :: encWord a16
  | .rorDpX o => [0x76, o]
  | .rorAbsX a16 => 0x7E :: encWord a16
  | .bpl r => [0x10, r]
  | .bmi r => [0x30, r]
  | .bvc r => [0x50, r]
  | .bvs r => [0x70, r]
  | .bcc r => [0x90, r]
  | .bcs r => [0xB0, r]
  | .bne r => [0xD0, r]
  | .beq r => [0xF0, r]
  | .bra r => [0x80, r]
  | .brl r16 => 0x82 :: encWord r16
  | .jmpAbsJ a16 => 0x4C :: encWord a16
  | .jmpAbsInd a16 => 0x6C :: encWord a16
  | .jmpAbsIndX a16 => 0x7C :: encWord a16
  | .jmlLongJ a24 => 0x5C :: encAddr a24
  | .jmlAbsIndL a16 => 0xDC :: encWord a16
  | .jsrAbsJ a16 => 0x20 :: encWord a16
  | .jsrAbsIndX a16 => 0xFC :: encWord a16
  | .jsl a24 => 0x22 :: encAddr a24
  | .rts => [0x60]
  | .rtl => [0x6B]
  | .pha => [0x48]
  | .phx => [0xDA]
  | .phy => [0x5A]
  | .php => [0x08]
  | .phb => [0x8B]
  | .phk => [0x4B]
  | .phd => [0x0B]
  | .pea v => 0xF4 :: encWord v
  | .pei o => [0xD4, o]
  | .per r16 => 0x62 :: encWord r16
  | .pla => [0x68]
  | .plx => [0xFA]
  | .plp => [0x28]
  | .ply => [0x7A]
  | .plb => [0xAB]
  | .pld => [0x2B]
  | .clc => [0x18]
  | .sec => [0x38]
  | .cli => [0x58]
  | .sei => [0x78]
  | .cld => [0xD8]
  | .rep mask => [0xC2, mask]
  | .sep mask => [0xE2, mask]
  | .sed => [0xF8]
  | .clv => [0xB8]
  | .xce => [0xFB]
  | .brk sig => [0x00, sig]
  | .rti => [0x40]
  | .cop sig => [0x02, sig]
  | .wai => [0xCB]
  | .stp => [0xDB]
  | .nop => [0xEA]
  | .wdm sig => [0x42, sig]

end Sys2Proof
end

