-- ==== Sys2Proof/Machine/Fetch.lean ====
section
/-! DEFINITION. The instruction stream: fetching and decoding the instruction at K:PC (spec/30_encoding.md R120-R126;
spec/60_exceptions.md R401), and placing bytes where the next fetch reads. -/

namespace Sys2Proof.Machine

/-- `FetchByte()` (R121): PC wraps and never carries into K. -/
def fetchByte (s : State) : Res Byte :=
  (memRead (mkAddr s.k s.pc) s).bind fun b s1 => .ok b { s1 with pc := s1.pc + 1 }

/-- The next `n` bytes of the instruction stream, in ascending order (R122). -/
def fetchBytes : Nat → State → Res (List Byte)
  | 0, s => .ok [] s
  | n + 1, s =>
    (fetchByte s).bind fun b s1 => (fetchBytes n s1).bind fun bs s2 => .ok (b :: bs) s2

/-- Fetch and decode one instruction (R401): the opcode, the operand bytes its entry takes at the current M and X (R126), and
the instruction they make. A missing entry raises `F_UNIMPLEMENTED_OPCODE` (R122, R441). -/
def fetchInstr (s : State) : Res Instr :=
  (fetchByte s.noteOpAddr).bind fun op s1 =>
    match opcodeEntry op with
    | none => .raise (.unimplementedOpcode s1.opAddr op) s1
    | some en =>
      (fetchBytes (en.operandCount s1.p.m s1.p.x) s1).bind fun bs s2 =>
        match decode s1.p.m s1.p.x (op :: bs) with
        | .ok (i, _) => .ok i s2
        | .error _ => .raise (.unimplementedOpcode s2.opAddr op) s2

/-- Place a byte at a bus address from outside: a WRAM byte, a register cell (no DMA), or a ROM byte of the cartridge. Nothing
can stand at an open-bus address. -/
def State.placeByte (s : State) (a : Addr) (v : Byte) : State :=
  match decodeAddr a with
  | .wram i => { s with wram := s.wram.write i v }
  | .reg o => { s with cells := s.cells.write o v }
  | .openBus => s
  | .cart a => { s with cart := { s.cart with cells := sparseWrite CartCell.undriven s.cart.cells (cartKey a) (.rom v) } }
  | .undecoded => s

/-- Place bytes at `K:off`, `K:(off + 1)`, …, as the instruction stream runs (R121). -/
def State.placeBytes (s : State) (k : Byte) (off : Word) (bytes : List Byte) : State :=
  match bytes with
  | [] => s
  | b :: rest => (s.placeByte (mkAddr k off) b).placeBytes k (off + 1) rest

end Sys2Proof.Machine
end

