-- ==== Sys2Proof/Machine/Step.lean ====
section
/-! DEFINITION. One step of the machine (spec/60_exceptions.md R400-R403), and the state whose next step runs a given
instruction. -/

namespace Sys2Proof.Machine

/-- `ExecuteOne()` (R401): fetch, decode, execute. -/
def executeOne (s : State) : Host.Outcome State Fault Refusal :=
  match fetchInstr s with
  | .ok i s1 => exec i s1
  | .raise f s1 => finish (.raise f s1)

/-- `Step()` (R400). A machine with a recorded fault takes no further step (R403): the outcome is that fault. An idle step changes
nothing (R403). -/
def step (s : State) : Host.Outcome State Fault Refusal :=
  match s.fault with
  | some f => .fault f
  | none =>
    match nextAction s with
    | .idle => .next s
    | .dispatch k => finish (dispatch k s)
    | .execute => executeOne s

/-- `s` with an instruction stored where the next fetch reads, at K:PC: in WRAM or a register cell where K:PC lies there, else
as ROM bytes of the cartridge, which is how a loader places a program (R472; log 4). -/
def State.withFetchWord (s : State) (nbits w : Nat) : State := s.placeBytes s.k s.pc (tableBytes nbits w)

end Sys2Proof.Machine
end

