-- ==== Sys2Proof/Safety.lean ====
section
/-! DEFINITION. What counts as a well-formed state and as a safe run, in the terms the claims use. -/

namespace Sys2Proof.Machine

/-- A key of the cartridge's list: an address of a cartridge region, without its mirror (R71, R76). -/
def isCartKey (k : Nat) : Bool :=
  decide (k < 0x1000000) && decide (decodeAddr (BitVec.ofNat 24 k) = .cart (BitVec.ofNat 24 k)) &&
    decide (cartKey (BitVec.ofNat 24 k) = k)

/-- Every memory is in canonical form and lists only addresses it has (R41, R42, R75). -/
def State.memoriesOk (s : State) : Bool :=
  s.wram.wf && keysIn isWramIndex s.wram && (s.cells.wf && keysIn isCellOffset s.cells) &&
    (sparseWfFrom CartCell.undriven 0 s.cart.cells && keysIn isCartKey s.cart.cells)

/-- The width invariants: XH = YH = 0 whenever P.X = 1 (R22); M = X = 1 and SH = 0x01 whenever E = 1 (R31). -/
def State.widthsOk (s : State) : Bool :=
  (!s.p.x || (hiByte s.x == 0 && hiByte s.y == 0)) && (!s.e || (s.p.m && s.p.x && hiByte s.sp == 0x01))

/-- A well-formed state. -/
def State.Inv (s : State) : Bool := s.memoriesOk && s.widthsOk

/-- A cartridge of plain storage: no address is of its own logic or an unsupported mapping, so no bus access faults (R442). -/
def State.cartPlain (s : State) : Bool :=
  s.cart.cells.all fun e =>
    match e.2 with
    | .undriven => true
    | .rom _ => true
    | .ram _ => true
    | .device => false
    | .unsupported => false

/-- The normal end of a run (R486): stopped, no RESET pending, no fault. -/
def State.isFinal (s : State) : Bool :=
  s.stopped && decide (s.pending ≠ some .reset) && s.fault.isNone

/-- A safe run of `n` steps: every step answers a next state, and no state on the way has a recorded fault (R440, R486). -/
def runsSafely : Nat → State → Prop
  | 0, s => s.fault = none
  | n + 1, s => s.fault = none ∧ ∃ t, step s = .next t ∧ runsSafely n t

end Sys2Proof.Machine
end

