-- ==== Sys2Proof/Certificates/Slice0/Obligations.lean ====
section
/-! DEFINITION. The statements for the provers, from the numbered rules of spec/. The first part holds the words they are said
in: each instruction form with its opcode, and register views, flags and results as plain arithmetic, apart from the model's own
helpers. -/

namespace Sys2Proof.Claims

open Sys2Proof.Machine

/-! ### Register views and flags, from the rules -/

/-- `2^w`. -/
def modulus (w : Width) : Nat := 2 ^ w.bits

/-- `getA()` (R24). -/
def viewA (s : State) : Word := if s.p.m then s.a &&& 0x00FF else s.a

/-- `getX()` (R25). -/
def viewX (s : State) : Word := if s.p.x then s.x &&& 0x00FF else s.x

/-- `getY()` (R25). -/
def viewY (s : State) : Word := if s.p.x then s.y &&& 0x00FF else s.y

/-- `setA(v)` (R24). -/
def putA (v : Word) (s : State) : State :=
  { s with a := if s.p.m then (s.a &&& 0xFF00) ||| (v &&& 0x00FF) else v }

/-- `setX(v)` (R25). -/
def putX (v : Word) (s : State) : State := { s with x := if s.p.x then v &&& 0x00FF else v }

/-- `setY(v)` (R25). -/
def putY (v : Word) (s : State) : State := { s with y := if s.p.x then v &&& 0x00FF else v }

/-- A written value of S (R28). -/
def pinned (e : Bool) (v : Word) : Word := if e then 0x0100 ||| (v &&& 0x00FF) else v

/-- N and Z of a value at a width (R207). -/
def nz (w : Width) (v : Word) (p : Flags) : Flags :=
  { p with n := v.getLsbD (w.bits - 1), z := decide (v.toNat % modulus w = 0) }

/-- N and Z of a value at a width, on a state. -/
def withNZ (w : Width) (v : Word) (s : State) : State := { s with p := nz w v s.p }

/-- `WriteP(v)` (R33). -/
def statusWritten (v : Byte) (s : State) : State :=
  let v' := if s.e then v ||| 0x30 else v
  { s with p := Flags.ofByte v'
           x := if v'.getLsbD 4 then s.x &&& 0x00FF else s.x
           y := if v'.getLsbD 4 then s.y &&& 0x00FF else s.y }

/-- A value of the operand arithmetic, in a 16-bit word. -/
def wrapped (w : Width) (n : Nat) : Word := BitVec.ofNat 16 (n % modulus w)

/-- The two's-complement reading of a value at a width. -/
def signed (w : Width) (v : Word) : Int :=
  if v.toNat < modulus w / 2 then v.toNat else (v.toNat : Int) - modulus w

/-! ### Ends of an instruction -/

/-- An instruction does what an operation does: where the operation answers a state, that is the next state; where it raises a
fatal condition, the next state records it (R440). -/
def Runs (r : Res Unit) (i : Instr) (s : State) : Prop :=
  (∀ t, r = .ok () t → exec i s = .next t) ∧ (∀ e t, r = .raise e t → exec i s = .next { t with fault := some e })

/-- An instruction form: its opcode (R128), the instruction, and where its operand is. -/
structure Form (α : Type) where
  opcode  : Byte
  instr   : Instr
  operand : α

/-- An instruction's encoding starts with an opcode. -/
def encodedAs (i : Instr) (opcode : Byte) : Prop := (encode i).head? = some opcode

/-- Forms that read an operand of a width and then have an effect that makes no bus access. -/
def ReadThen (forms : List (Form Operand)) (w : State → Width) (ok : State → Prop) (effect : Word → State → State) : Prop :=
  ∀ f ∈ forms, encodedAs f.instr f.opcode ∧ ∀ s, ok s →
    (∀ m s1, getValue f.operand (w s) s = .ok m s1 → exec f.instr s = .next (effect m s1)) ∧
    (∀ e s1, getValue f.operand (w s) s = .raise e s1 → exec f.instr s = .next { s1 with fault := some e })

/-- Forms that store a value of a width: `ea <- getAddress(); WriteN(ea, w/8, v)`. -/
def Stores (forms : List (Form MemMode)) (w : State → Width) (v : State → Word) : Prop :=
  ∀ f ∈ forms, encodedAs f.instr f.opcode ∧ ∀ s,
    (∀ ea s1 t, getAddress f.operand s = .ok ea s1 → writeN ea (w s).bytes (v s) s1 = .ok () t → exec f.instr s = .next t) ∧
    (∀ e t, ((getAddress f.operand s).bind fun ea s1 => writeN ea (w s).bytes (v s) s1) = .raise e t →
      exec f.instr s = .next { t with fault := some e })

/-- Memory forms that read, modify and write at wM (R276): the value written, the flags before the write, and N and Z after it
where `setsNZ`. -/
def Modifies (forms : List (Form MemMode)) (new : Width → Word → State → Word) (before : Width → Word → State → Flags)
    (setsNZ : Bool) : Prop :=
  ∀ f ∈ forms, encodedAs f.instr f.opcode ∧ ∀ s,
    (∀ ea s1 v s2 t, getAddress f.operand s = .ok ea s1 → readAt ea s.wM s1 = .ok v s2 →
      writeN ea s.wM.bytes (new s.wM v s2) { s2 with p := before s.wM v s2 } = .ok () t →
      exec f.instr s = .next (if setsNZ then withNZ s.wM (new s.wM v s2) t else t)) ∧
    (∀ e t, ((getAddress f.operand s).bind fun ea s1 => (readAt ea s.wM s1).bind fun v s2 =>
        writeN ea s.wM.bytes (new s.wM v s2) { s2 with p := before s.wM v s2 }) = .raise e t →
      exec f.instr s = .next { t with fault := some e })

/-! ### The instruction forms (R128) -/

/-- LDA (R200). -/
def ldaForms (o : Byte) (a16 : Word) (a24 : Addr) (v : Imm) : List (Form Operand) :=
  [⟨0xA1, .ldaDpIndX o, .mem (.dpIndX o)⟩, ⟨0xA3, .ldaSr o, .mem (.sr o)⟩, ⟨0xA5, .ldaDp o, .mem (.dp o)⟩,
   ⟨0xA7, .ldaDpIndL o, .mem (.dpIndL o)⟩, ⟨0xA9, .ldaImmM v, .imm v⟩, ⟨0xAD, .ldaAbs a16, .mem (.abs a16)⟩,
   ⟨0xAF, .ldaLong a24, .mem (.long a24)⟩, ⟨0xB1, .ldaDpIndY o, .mem (.dpIndY o)⟩, ⟨0xB2, .ldaDpInd o, .mem (.dpInd o)⟩,
   ⟨0xB3, .ldaSrIndY o, .mem (.srIndY o)⟩, ⟨0xB5, .ldaDpX o, .mem (.dpX o)⟩, ⟨0xB7, .ldaDpIndLY o, .mem (.dpIndLY o)⟩,
   ⟨0xB9, .ldaAbsY a16, .mem (.absY a16)⟩, ⟨0xBD, .ldaAbsX a16, .mem (.absX a16)⟩,
   ⟨0xBF, .ldaLongX a24, .mem (.longX a24)⟩]

/-- LDX (R201). -/
def ldxForms (o : Byte) (a16 : Word) (v : Imm) : List (Form Operand) :=
  [⟨0xA2, .ldxImmX v, .imm v⟩, ⟨0xA6, .ldxDp o, .mem (.dp o)⟩, ⟨0xAE, .ldxAbs a16, .mem (.abs a16)⟩,
   ⟨0xB6, .ldxDpY o, .mem (.dpY o)⟩, ⟨0xBE, .ldxAbsY a16, .mem (.absY a16)⟩]

/-- LDY (R202). -/
def ldyForms (o : Byte) (a16 : Word) (v : Imm) : List (Form Operand) :=
  [⟨0xA0, .ldyImmX v, .imm v⟩, ⟨0xA4, .ldyDp o, .mem (.dp o)⟩, ⟨0xAC, .ldyAbs a16, .mem (.abs a16)⟩,
   ⟨0xB4, .ldyDpX o, .mem (.dpX o)⟩, ⟨0xBC, .ldyAbsX a16, .mem (.absX a16)⟩]

/-- ADC (R251). -/
def adcForms (o : Byte) (a16 : Word) (a24 : Addr) (v : Imm) : List (Form Operand) :=
  [⟨0x61, .adcDpIndX o, .mem (.dpIndX o)⟩, ⟨0x63, .adcSr o, .mem (.sr o)⟩, ⟨0x65, .adcDp o, .mem (.dp o)⟩,
   ⟨0x67, .adcDpIndL o, .mem (.dpIndL o)⟩, ⟨0x69, .adcImmM v, .imm v⟩, ⟨0x6D, .adcAbs a16, .mem (.abs a16)⟩,
   ⟨0x6F, .adcLong a24, .mem (.long a24)⟩, ⟨0x71, .adcDpIndY o, .mem (.dpIndY o)⟩, ⟨0x72, .adcDpInd o, .mem (.dpInd o)⟩,
   ⟨0x73, .adcSrIndY o, .mem (.srIndY o)⟩, ⟨0x75, .adcDpX o, .mem (.dpX o)⟩, ⟨0x77, .adcDpIndLY o, .mem (.dpIndLY o)⟩,
   ⟨0x79, .adcAbsY a16, .mem (.absY a16)⟩, ⟨0x7D, .adcAbsX a16, .mem (.absX a16)⟩,
   ⟨0x7F, .adcLongX a24, .mem (.longX a24)⟩]

/-- SBC (R252). -/
def sbcForms (o : Byte) (a16 : Word) (a24 : Addr) (v : Imm) : List (Form Operand) :=
  [⟨0xE1, .sbcDpIndX o, .mem (.dpIndX o)⟩, ⟨0xE3, .sbcSr o, .mem (.sr o)⟩, ⟨0xE5, .sbcDp o, .mem (.dp o)⟩,
   ⟨0xE7, .sbcDpIndL o, .mem (.dpIndL o)⟩, ⟨0xE9, .sbcImmM v, .imm v⟩, ⟨0xED, .sbcAbs a16, .mem (.abs a16)⟩,
   ⟨0xEF, .sbcLong a24, .mem (.long a24)⟩, ⟨0xF1, .sbcDpIndY o, .mem (.dpIndY o)⟩, ⟨0xF2, .sbcDpInd o, .mem (.dpInd o)⟩,
   ⟨0xF3, .sbcSrIndY o, .mem (.srIndY o)⟩, ⟨0xF5, .sbcDpX o, .mem (.dpX o)⟩, ⟨0xF7, .sbcDpIndLY o, .mem (.dpIndLY o)⟩,
   ⟨0xF9, .sbcAbsY a16, .mem (.absY a16)⟩, ⟨0xFD, .sbcAbsX a16, .mem (.absX a16)⟩,
   ⟨0xFF, .sbcLongX a24, .mem (.longX a24)⟩]

/-- CMP (R253). -/
def cmpForms (o : Byte) (a16 : Word) (a24 : Addr) (v : Imm) : List (Form Operand) :=
  [⟨0xC1, .cmpDpIndX o, .mem (.dpIndX o)⟩, ⟨0xC3, .cmpSr o, .mem (.sr o)⟩, ⟨0xC5, .cmpDp o, .mem (.dp o)⟩,
   ⟨0xC7, .cmpDpIndL o, .mem (.dpIndL o)⟩, ⟨0xC9, .cmpImmM v, .imm v⟩, ⟨0xCD, .cmpAbs a16, .mem (.abs a16)⟩,
   ⟨0xCF, .cmpLong a24, .mem (.long a24)⟩, ⟨0xD1, .cmpDpIndY o, .mem (.dpIndY o)⟩, ⟨0xD2, .cmpDpInd o, .mem (.dpInd o)⟩,
   ⟨0xD3, .cmpSrIndY o, .mem (.srIndY o)⟩, ⟨0xD5, .cmpDpX o, .mem (.dpX o)⟩, ⟨0xD7, .cmpDpIndLY o, .mem (.dpIndLY o)⟩,
   ⟨0xD9, .cmpAbsY a16, .mem (.absY a16)⟩, ⟨0xDD, .cmpAbsX a16, .mem (.absX a16)⟩,
   ⟨0xDF, .cmpLongX a24, .mem (.longX a24)⟩]

/-- CPX (R254). -/
def cpxForms (o : Byte) (a16 : Word) (v : Imm) : List (Form Operand) :=
  [⟨0xE0, .cpxImmX v, .imm v⟩, ⟨0xE4, .cpxDp o, .mem (.dp o)⟩, ⟨0xEC, .cpxAbs a16, .mem (.abs a16)⟩]

/-- CPY (R255). -/
def cpyForms (o : Byte) (a16 : Word) (v : Imm) : List (Form Operand) :=
  [⟨0xC0, .cpyImmX v, .imm v⟩, ⟨0xC4, .cpyDp o, .mem (.dp o)⟩, ⟨0xCC, .cpyAbs a16, .mem (.abs a16)⟩]

/-- AND (R262). -/
def andForms (o : Byte) (a16 : Word) (a24 : Addr) (v : Imm) : List (Form Operand) :=
  [⟨0x21, .andDpIndX o, .mem (.dpIndX o)⟩, ⟨0x23, .andSr o, .mem (.sr o)⟩, ⟨0x25, .andDp o, .mem (.dp o)⟩,
   ⟨0x27, .andDpIndL o, .mem (.dpIndL o)⟩, ⟨0x29, .andImmM v, .imm v⟩, ⟨0x2D, .andAbs a16, .mem (.abs a16)⟩,
   ⟨0x2F, .andLong a24, .mem (.long a24)⟩, ⟨0x31, .andDpIndY o, .mem (.dpIndY o)⟩, ⟨0x32, .andDpInd o, .mem (.dpInd o)⟩,
   ⟨0x33, .andSrIndY o, .mem (.srIndY o)⟩, ⟨0x35, .andDpX o, .mem (.dpX o)⟩, ⟨0x37, .andDpIndLY o, .mem (.dpIndLY o)⟩,
   ⟨0x39, .andAbsY a16, .mem (.absY a16)⟩, ⟨0x3D, .andAbsX a16, .mem (.absX a16)⟩,
   ⟨0x3F, .andLongX a24, .mem (.longX a24)⟩]

/-- ORA (R263). -/
def oraForms (o : Byte) (a16 : Word) (a24 : Addr) (v : Imm) : List (Form Operand) :=
  [⟨0x01, .oraDpIndX o, .mem (.dpIndX o)⟩, ⟨0x03, .oraSr o, .mem (.sr o)⟩, ⟨0x05, .oraDp o, .mem (.dp o)⟩,
   ⟨0x07, .oraDpIndL o, .mem (.dpIndL o)⟩, ⟨0x09, .oraImmM v, .imm v⟩, ⟨0x0D, .oraAbs a16, .mem (.abs a16)⟩,
   ⟨0x0F, .oraLong a24, .mem (.long a24)⟩, ⟨0x11, .oraDpIndY o, .mem (.dpIndY o)⟩, ⟨0x12, .oraDpInd o, .mem (.dpInd o)⟩,
   ⟨0x13, .oraSrIndY o, .mem (.srIndY o)⟩, ⟨0x15, .oraDpX o, .mem (.dpX o)⟩, ⟨0x17, .oraDpIndLY o, .mem (.dpIndLY o)⟩,
   ⟨0x19, .oraAbsY a16, .mem (.absY a16)⟩, ⟨0x1D, .oraAbsX a16, .mem (.absX a16)⟩,
   ⟨0x1F, .oraLongX a24, .mem (.longX a24)⟩]

/-- EOR (R264). -/
def eorForms (o : Byte) (a16 : Word) (a24 : Addr) (v : Imm) : List (Form Operand) :=
  [⟨0x41, .eorDpIndX o, .mem (.dpIndX o)⟩, ⟨0x43, .eorSr o, .mem (.sr o)⟩, ⟨0x45, .eorDp o, .mem (.dp o)⟩,
   ⟨0x47, .eorDpIndL o, .mem (.dpIndL o)⟩, ⟨0x49, .eorImmM v, .imm v⟩, ⟨0x4D, .eorAbs a16, .mem (.abs a16)⟩,
   ⟨0x4F, .eorLong a24, .mem (.long a24)⟩, ⟨0x51, .eorDpIndY o, .mem (.dpIndY o)⟩, ⟨0x52, .eorDpInd o, .mem (.dpInd o)⟩,
   ⟨0x53, .eorSrIndY o, .mem (.srIndY o)⟩, ⟨0x55, .eorDpX o, .mem (.dpX o)⟩, ⟨0x57, .eorDpIndLY o, .mem (.dpIndLY o)⟩,
   ⟨0x59, .eorAbsY a16, .mem (.absY a16)⟩, ⟨0x5D, .eorAbsX a16, .mem (.absX a16)⟩,
   ⟨0x5F, .eorLongX a24, .mem (.longX a24)⟩]

/-- STA (R203). -/
def staMemForms (o : Byte) (a16 : Word) (a24 : Addr) : List (Form MemMode) :=
  [⟨0x81, .staDpIndX o, .dpIndX o⟩, ⟨0x83, .staSr o, .sr o⟩, ⟨0x85, .staDp o, .dp o⟩, ⟨0x87, .staDpIndL o, .dpIndL o⟩,
   ⟨0x8D, .staAbs a16, .abs a16⟩, ⟨0x8F, .staLong a24, .long a24⟩, ⟨0x91, .staDpIndY o, .dpIndY o⟩,
   ⟨0x92, .staDpInd o, .dpInd o⟩, ⟨0x93, .staSrIndY o, .srIndY o⟩, ⟨0x95, .staDpX o, .dpX o⟩,
   ⟨0x97, .staDpIndLY o, .dpIndLY o⟩, ⟨0x99, .staAbsY a16, .absY a16⟩, ⟨0x9D, .staAbsX a16, .absX a16⟩,
   ⟨0x9F, .staLongX a24, .longX a24⟩]

/-- STX (R204). -/
def stxMemForms (o : Byte) (a16 : Word) : List (Form MemMode) :=
  [⟨0x86, .stxDp o, .dp o⟩, ⟨0x8E, .stxAbs a16, .abs a16⟩, ⟨0x96, .stxDpY o, .dpY o⟩]

/-- STY (R205). -/
def styMemForms (o : Byte) (a16 : Word) : List (Form MemMode) :=
  [⟨0x84, .styDp o, .dp o⟩, ⟨0x8C, .styAbs a16, .abs a16⟩, ⟨0x94, .styDpX o, .dpX o⟩]

/-- STZ (R206). -/
def stzMemForms (o : Byte) (a16 : Word) : List (Form MemMode) :=
  [⟨0x64, .stzDp o, .dp o⟩, ⟨0x74, .stzDpX o, .dpX o⟩, ⟨0x9C, .stzAbs a16, .abs a16⟩, ⟨0x9E, .stzAbsX a16, .absX a16⟩]

/-- BIT with a memory operand (R265). -/
def bitMemForms (o : Byte) (a16 : Word) : List (Form MemMode) :=
  [⟨0x24, .bitDp o, .dp o⟩, ⟨0x2C, .bitAbs a16, .abs a16⟩, ⟨0x34, .bitDpX o, .dpX o⟩, ⟨0x3C, .bitAbsX a16, .absX a16⟩]

/-- TSB on memory (R266). -/
def tsbMemForms (o : Byte) (a16 : Word) : List (Form MemMode) :=
  [⟨0x04, .tsbDp o, .dp o⟩, ⟨0x0C, .tsbAbs a16, .abs a16⟩]

/-- TRB on memory (R267). -/
def trbMemForms (o : Byte) (a16 : Word) : List (Form MemMode) :=
  [⟨0x14, .trbDp o, .dp o⟩, ⟨0x1C, .trbAbs a16, .abs a16⟩]

/-- INC on memory (R256). -/
def incMemForms (o : Byte) (a16 : Word) : List (Form MemMode) :=
  [⟨0xE6, .incDp o, .dp o⟩, ⟨0xEE, .incAbs a16, .abs a16⟩, ⟨0xF6, .incDpX o, .dpX o⟩, ⟨0xFE, .incAbsX a16, .absX a16⟩]

/-- DEC on memory (R257). -/
def decMemForms (o : Byte) (a16 : Word) : List (Form MemMode) :=
  [⟨0xC6, .decDp o, .dp o⟩, ⟨0xCE, .decAbs a16, .abs a16⟩, ⟨0xD6, .decDpX o, .dpX o⟩, ⟨0xDE, .decAbsX a16, .absX a16⟩]

/-- ASL on memory (R268). -/
def aslMemForms (o : Byte) (a16 : Word) : List (Form MemMode) :=
  [⟨0x06, .aslDp o, .dp o⟩, ⟨0x0E, .aslAbs a16, .abs a16⟩, ⟨0x16, .aslDpX o, .dpX o⟩, ⟨0x1E, .aslAbsX a16, .absX a16⟩]

/-- LSR on memory (R269). -/
def lsrMemForms (o : Byte) (a16 : Word) : List (Form MemMode) :=
  [⟨0x46, .lsrDp o, .dp o⟩, ⟨0x4E, .lsrAbs a16, .abs a16⟩, ⟨0x56, .lsrDpX o, .dpX o⟩, ⟨0x5E, .lsrAbsX a16, .absX a16⟩]

/-- ROL on memory (R270). -/
def rolMemForms (o : Byte) (a16 : Word) : List (Form MemMode) :=
  [⟨0x26, .rolDp o, .dp o⟩, ⟨0x2E, .rolAbs a16, .abs a16⟩, ⟨0x36, .rolDpX o, .dpX o⟩, ⟨0x3E, .rolAbsX a16, .absX a16⟩]

/-- ROR on memory (R271). -/
def rorMemForms (o : Byte) (a16 : Word) : List (Form MemMode) :=
  [⟨0x66, .rorDp o, .dp o⟩, ⟨0x6E, .rorAbs a16, .abs a16⟩, ⟨0x76, .rorDpX o, .dpX o⟩, ⟨0x7E, .rorAbsX a16, .absX a16⟩]

/-! ### Results -/

/-- ADC's effect (R251). -/
def added (m : Word) (s : State) : State :=
  let w := widthOf s.p.m
  let a := viewA s
  let sum := a.toNat + m.toNat + s.p.c.toNat
  let res := wrapped w sum
  { putA res s with
    p := { nz w res s.p with c := decide (modulus w ≤ sum), v := (~~~(a ^^^ m) &&& (a ^^^ res)).getLsbD (w.bits - 1) } }

/-- SBC's effect (R252). -/
def subtracted (m : Word) (s : State) : State :=
  let w := widthOf s.p.m
  let a := viewA s
  let sum := a.toNat + (modulus w - 1 - m.toNat) + s.p.c.toNat
  let res := wrapped w sum
  { putA res s with
    p := { nz w res s.p with c := decide (modulus w ≤ sum), v := ((a ^^^ m) &&& (a ^^^ res)).getLsbD (w.bits - 1) } }

/-- A compare's effect (R253-R255). -/
def compared (w : Width) (a m : Word) (s : State) : State :=
  { s with p := { nz w (wrapped w (a.toNat + modulus w - m.toNat)) s.p with c := decide (m.toNat ≤ a.toNat) } }

/-- Z of a bit test (R265-R267). -/
def testedZ (m : Word) (s : State) : Flags := { s.p with z := decide (viewA s &&& m = 0) }

/-- Left shift or rotate (R268, R270): the result, and the old sign bit in C. -/
def shiftedLeft (cin : Bool) (w : Width) (v : Word) : Word := wrapped w (2 * v.toNat + cin.toNat)

/-- Right shift or rotate (R269, R271). -/
def shiftedRight (cin : Bool) (w : Width) (v : Word) : Word :=
  BitVec.ofNat 16 (v.toNat / 2 + cin.toNat * (modulus w / 2))

/-- C of a left shift. -/
def carryLeft (w : Width) (v : Word) (s : State) : Flags := { s.p with c := decide (modulus w / 2 ≤ v.toNat) }

/-- C of a right shift. -/
def carryRight (_w : Width) (v : Word) (s : State) : Flags := { s.p with c := decide (v.toNat % 2 = 1) }

/-- The accumulator form of a modifying instruction. -/
def accResult (v : Word) (p : Flags) (s : State) : State := withNZ s.wM v (putA v { s with p := p })

/-! ### Bytes of the stack and of memory -/

/-- The address of the `k`-th byte pushed from a state (R95). -/
def pushAddr (s : State) (k : Nat) : Addr :=
  mkAddr 0x00 (if k = 0 then s.sp else pinned s.e (s.sp - BitVec.ofNat 16 k))

/-- The next `n` bytes pushed lie in the WRAM mirror of bank 0. -/
def stackInWram (s : State) (n : Nat) : Bool :=
  if s.e then hiByte s.sp == 0x01 else decide (n ≤ s.sp.toNat + 1 ∧ s.sp.toNat < 0x2000)

/-- The byte of WRAM at an offset of bank 0. -/
def stackByte (s : State) (off : Word) : Byte := s.wram.read off.toNat

/-- No byte of an operand at `ea` is the DMA-enable register. -/
def awayFromDma (ea : EA) (n : Nat) : Prop := ∀ k < n, decodeAddr (ea.byteAddr k) ≠ .reg 0x420B

/-- Instructions that push, with the number of bytes each pushes (R313, R314, R340-R349, R380, R382, R421). -/
def pushers (s : State) (a16 : Word) (a24 : Addr) (b : Byte) : List (Instr × Nat) :=
  [(.pha, s.wM.bytes), (.phx, s.wX.bytes), (.phy, s.wX.bytes), (.php, 1), (.phb, 1), (.phk, 1), (.phd, 2), (.pea a16, 2),
   (.pei b, 2), (.per a16, 2), (.jsrAbsJ a16, 2), (.jsrAbsIndX a16, 2), (.jsl a24, 3),
   (.brk b, if s.e then 3 else 4), (.cop b, if s.e then 3 else 4)]

/-- An instruction form that stores to memory or pushes. -/
def storesMemory (i : Instr) : Bool :=
  decide (i.mnemonic ∈ [Mnemonic.sta, .stx, .sty, .stz, .tsb, .trb, .mvn, .mvp, .pha, .phx, .phy, .php, .phb, .phk, .phd,
    .pea, .pei, .per, .jsr, .jsl, .brk, .cop]) ||
  (decide (i.mnemonic ∈ [Mnemonic.inc, .dec, .asl, .lsr, .rol, .ror]) && decide (i.mode ≠ .acc))

/-- `n` bytes of a block move (R225): each reads `sbk : X` and writes `dbk : Y`, then X and Y step and C16 counts down. -/
inductive Moves (delta : Word) (dbk sbk : Byte) : Nat → State → State → Prop where
  | done (s : State) : Moves delta dbk sbk 0 s s
  | byte {n : Nat} {s s1 s2 t : State} {v : Byte} (hr : memRead (mkAddr sbk (viewX s)) s = .ok v s1)
      (hw : memWrite (mkAddr dbk (viewY s1)) v s1 = .ok () s2)
      (rest : Moves delta dbk sbk n { putY (viewY s2 + delta) (putX (viewX s2 + delta) s2) with a := s2.a - 1 } t) :
      Moves delta dbk sbk (n + 1) s t

/-- Bytes of a DMA transfer (R455): from byte `k` at CPU-bus offset `off`, up to byte `k'`. Bit 7 of the control byte chooses the side
that is read (R454), bit 3 fixes the CPU-bus offset, and else bit 4 chooses -1 or +1 (R452). -/
inductive Transfers (ctl bbad bank : Byte) : Nat → Word → State → Nat → Word → State → Prop where
  | done (k : Nat) (off : Word) (s : State) : Transfers ctl bbad bank k off s k off s
  | byte {k k' : Nat} {off off' : Word} {s s1 s2 t : State} {v : Byte}
      (hreg : ∀ o, decodeAddr (mkAddr bank off) ≠ .reg o)
      (hr : memRead (if ctl.toNat < 0x80 then mkAddr bank off else dmaBAddr (ctl.toNat % 8) bbad k) s = .ok v s1)
      (hw : memWrite (if ctl.toNat < 0x80 then dmaBAddr (ctl.toNat % 8) bbad k else mkAddr bank off) v s1 = .ok () s2)
      (rest : Transfers ctl bbad bank (k + 1) (off + if ctl.getLsbD 3 then 0 else if ctl.getLsbD 4 then 0xFFFF else 1) s2 k' off' t) :
      Transfers ctl bbad bank k off s k' off' t

/-! ### Exceptions -/

/-- Bit 4 of the P that entry pushes in emulation mode (R421). -/
def breakBit (k : IntKind) : Bool :=
  match k with
  | .brk => true
  | .cop => Config.copEmuB
  | .abort | .nmi | .reset | .irq => false

/-- `VT(k, mode)` (R422), in emulation mode where `e`. -/
def entryVector (vt : VectorTable) (k : IntKind) (e : Bool) : Word :=
  let column := if e then vt.emulation else vt.native
  match k with
  | .cop => column.cop
  | .brk => column.brk
  | .abort => column.abort
  | .nmi => column.nmi
  | .reset => column.reset
  | .irq => column.irq

/-- `Enter(k)` (R421), from the values before it: K (native mode only), PC and P pushed, I set, D and K cleared, PC from the vector
table's column for the mode. -/
def entered (k : IntKind) (s : State) : Res Unit :=
  (if s.e then .ok () s else push8 s.k s).bind fun _ s1 =>
    (push16 s.pc s1).bind fun _ s2 =>
      (push8 (if s.e then { s.p with x := breakBit k }.toByte else s.p.toByte) s2).bind fun _ s3 =>
        .ok () { s3 with p := { s.p with i := true, d := false }, k := 0, pc := entryVector s.vt k s.e }

/-- The destination address of byte `k` of a block move (R181, R225). -/
def moveTarget (delta : Word) (dbk : Byte) (s : State) (k : Nat) : Addr :=
  mkAddr dbk (if s.p.x then (s.y + BitVec.ofNat 16 k * delta) &&& 0x00FF else s.y + BitVec.ofNat 16 k * delta)

/-! ### Length -/

/-- The length R123 gives an addressing mode at the flags M and X. -/
def lengthOf (m x : Bool) (mode : Mode) : Nat :=
  match mode with
  | .imp | .acc => 1
  | .immM => if m then 2 else 3
  | .immX => if x then 2 else 3
  | .imm8 | .sig | .dp | .dpX | .dpY | .dpInd | .dpIndX | .dpIndY | .dpIndL | .dpIndLY | .peiDp | .sr | .srIndY | .rel8 => 2
  | .imm16 | .abs | .absX | .absY | .rel16 | .absJ | .absInd | .absIndX | .absIndL | .blk => 3
  | .long | .longX | .longJ => 4

/-- A step that starts no dispatch and is not idle executes an instruction (R400). -/
def executes (s : State) : Prop :=
  s.fault = none ∧ s.stopped = false ∧ s.waiting = false ∧
    (s.pending = none ∨ (s.pending = some .irq ∧ s.p.i = true))

end Sys2Proof.Claims

open Sys2Proof Sys2Proof.Machine Sys2Proof.Claims

/-! ### Encoding -/

/-- Decoding an encoded well-formed instruction gives it back, with the bytes after it (R122-R126). -/
def Obligations.DecodeInvertsEncode : Prop :=
  ∀ (m x : Bool) (i : Instr) (rest : List Byte), i.wellFormed m x = true → decode m x (encode i ++ rest) = .ok (i, rest)

/-- Each byte string has one meaning: encoding what the decoder read gives its bytes back, and it is well-formed (R122-R126). -/
def Obligations.EncodeInvertsDecode : Prop :=
  ∀ (m x : Bool) (bytes : List Byte) (i : Instr) (rest : List Byte),
    decode m x bytes = .ok (i, rest) → encode i ++ rest = bytes ∧ i.wellFormed m x = true

/-- All 256 opcodes select an instruction: any opcode with three bytes after it decodes, and its encoding starts with the opcode
(R129). -/
def Obligations.EveryOpcodeDecodes : Prop :=
  ∀ (m x : Bool) (op b1 b2 b3 : Byte),
    ∃ i rest, decode m x [op, b1, b2, b3] = .ok (i, rest) ∧ encodedAs i op

/-- Words written out from R123, R127, R133 and R225 decode to the instructions they stand for. -/
def Obligations.WrittenOutWordsDecode : Prop :=
  decode true true [0b10101001, 0x80] = .ok (.ldaImmM (.b 0x80), []) ∧
  decode false true [0b10101001, 0x34, 0x12] = .ok (.ldaImmM (.w 0x1234), []) ∧
  decode true false [0b10100000, 0x00, 0x00] = .ok (.ldyImmX (.w 0x0000), []) ∧
  decode true true [0b10001101, 0x00, 0x20] = .ok (.staAbs 0x2000, []) ∧
  decode true true [0b01010100, 0x7E, 0x7F] = .ok (.mvn 0x7E 0x7F, []) ∧
  decode true true [0b00010111, 0x10] = .ok (.oraDpIndLY 0x10, []) ∧
  decode true true [0b01011100, 0x00, 0x90, 0xC0] = .ok (.jmlLongJ 0xC09000, []) ∧
  decode true true [0b00100000, 0x34, 0x12, 0xEA] = .ok (.jsrAbsJ 0x1234, [0xEA]) ∧
  decode true true [0b11010000, 0xFC] = .ok (.bne 0xFC, []) ∧
  decode true true [0b11100010, 0x30] = .ok (.sep 0x30, []) ∧
  decode true true [0b01101010] = .ok (.rorAcc, []) ∧
  decode true true [0b11111011] = .ok (.xce, [])

/-- An instruction is 1 to 4 bytes long, and its length is fixed by its addressing mode and, for an immediate, by M or X
(R120, R123, R124). -/
def Obligations.LengthFollowsModeAndFlags : Prop :=
  ∀ (m x : Bool) (i : Instr), i.wellFormed m x = true →
    (encode i).length = lengthOf m x i.mode ∧ 1 ≤ (encode i).length ∧ (encode i).length ≤ 4

/-! ### Register accessors and P -/

/-- The width-aware accessors (R24, R25): what each returns, that each write changes its own cell only, and that with the width
rules in force the index views are the whole cells. -/
def Obligations.AccessorsFollowTheWidths : Prop :=
  ∀ (s : State) (v : Word),
    (s.getA = viewA s ∧ s.setA v = putA v s) ∧
    (s.getX = viewX s ∧ s.setX v = putX v s) ∧
    (s.getY = viewY s ∧ s.setY v = putY v s) ∧
    (s.widthsOk = true → s.getX = s.x ∧ s.getY = s.y)

/-- The bit order of P (R30), and `WriteP` (R33): what P, X and Y become, and that nothing else changes. -/
def Obligations.WritePKeepsTheWidthRules : Prop :=
  (∀ p : Flags, p.toByte.toNat = 128 * p.n.toNat + 64 * p.v.toNat + 32 * p.m.toNat + 16 * p.x.toNat +
      8 * p.d.toNat + 4 * p.i.toNat + 2 * p.z.toNat + p.c.toNat ∧ Flags.ofByte p.toByte = p) ∧
  ∀ (s : State) (v : Byte), s.writeP v = statusWritten v s

/-! ### The bus -/

/-- The address decoder's table (R71): every bank and offset, in exactly one region. -/
def Obligations.AddressDecoderTable : Prop :=
  ∀ (b : Byte) (off : Word),
    let a := mkAddr b off
    ((b.toNat ≤ 0x3F ∨ (0x80 ≤ b.toNat ∧ b.toNat ≤ 0xBF)) →
      (off.toNat ≤ 0x1FFF → decodeAddr a = .wram off.toNat) ∧
      (0x2000 ≤ off.toNat → off.toNat ≤ 0x20FF → decodeAddr a = .openBus) ∧
      (0x2100 ≤ off.toNat → off.toNat ≤ 0x21FF → decodeAddr a = .reg off.toNat) ∧
      (0x2200 ≤ off.toNat → off.toNat ≤ 0x3FFF → decodeAddr a = .openBus) ∧
      (0x4000 ≤ off.toNat → off.toNat ≤ 0x43FF → decodeAddr a = .reg off.toNat) ∧
      (0x4400 ≤ off.toNat → off.toNat ≤ 0x7FFF → decodeAddr a = .openBus) ∧
      (0x8000 ≤ off.toNat → decodeAddr a = .cart a)) ∧
    (((0x40 ≤ b.toNat ∧ b.toNat ≤ 0x7D) ∨ 0xC0 ≤ b.toNat) → decodeAddr a = .cart a) ∧
    (b.toNat = 0x7E ∨ b.toNat = 0x7F → decodeAddr a = .wram ((b.toNat - 0x7E) * 0x10000 + off.toNat))

/-- `MemRead(a, 1)` by region (R80): the byte returned, the latch, and nothing else but the cartridge's inner state. -/
def Obligations.BusReadReturnsAndLatches : Prop :=
  ∀ (a : Addr) (s : State),
    (∀ i, decodeAddr a = .wram i → memRead a s = .ok (s.wram.read i) { s with mdr := s.wram.read i }) ∧
    (∀ o, decodeAddr a = .reg o → memRead a s = .ok (s.cells.read o) { s with mdr := s.cells.read o }) ∧
    (decodeAddr a = .openBus → memRead a s = .ok s.mdr s) ∧
    (decodeAddr a = .cart a →
      (∀ v c, cartRead s.cart a = (.byte v, c) → memRead a s = .ok v { s with mdr := v, cart := c }) ∧
      (∀ c, cartRead s.cart a = (.undriven, c) → memRead a s = .ok s.mdr { s with cart := c }) ∧
      (∀ c, cartRead s.cart a = (.unsupported, c) →
        memRead a s = .raise (.cartUnsupported a .read s.opAddr) { s with cart := c }))

/-- `MemWrite(a, 1, v)` by region (R81), with the DMA engine run by cell 0x420B after the cell is stored (R82). That a write the
cartridge answers with `unsupported` leaves the cartridge as it was is the model's choice (log 5): R76 and R91 leave it open. -/
def Obligations.BusWriteStoresAndLatches : Prop :=
  ∀ (a : Addr) (v : Byte) (s : State),
    (∀ i, decodeAddr a = .wram i → memWrite a v s = .ok () { s with mdr := v, wram := s.wram.write i v }) ∧
    (∀ o, decodeAddr a = .reg o → o ≠ 0x420B →
      memWrite a v s = .ok () { s with mdr := v, cells := s.cells.write o v }) ∧
    (decodeAddr a = .reg 0x420B →
      memWrite a v s = dmaTrigger v { s with mdr := v, cells := s.cells.write 0x420B v }) ∧
    (decodeAddr a = .openBus → memWrite a v s = .ok () { s with mdr := v }) ∧
    (decodeAddr a = .cart a →
      (∀ c, cartWrite s.cart a v = some c → memWrite a v s = .ok () { s with mdr := v, cart := c }) ∧
      (cartWrite s.cart a v = none → memWrite a v s = .raise (.cartUnsupported a .write s.opAddr) { s with mdr := v }))

/-- The mirroring law (R78): at a non-register offset, bank b + 0x80 reads as bank b. -/
def Obligations.MirrorBanksReadAlike : Prop :=
  ∀ (b : Byte) (off : Word) (s : State), b.toNat ≤ 0x3F → isCellOffset off.toNat = false →
    (∀ v t, memRead (mkAddr b off) s = .ok v t → ∃ t', memRead (mkAddr (b + 0x80) off) s = .ok v t') ∧
    (∀ v t, memRead (mkAddr (b + 0x80) off) s = .ok v t → ∃ t', memRead (mkAddr b off) s = .ok v t')

/-- The round-trip and open-bus laws (R105). -/
def Obligations.RoundTripAndOpenBus : Prop :=
  (∀ (a : Addr) (v : Byte) (s : State), s.memoriesOk = true → (bankOf a = 0x7E ∨ bankOf a = 0x7F) →
    ∃ t, memWrite a v s = .ok () t ∧ memRead a t = .ok v t) ∧
  (∀ (a : Addr) (v : Byte) (s t : State), decodeAddr a ≠ .reg 0x420B → memWrite a v s = .ok () t →
    memRead (mkAddr 0x00 0x2200) t = .ok v t)

/-- The faults of a bus access (R442): `F_CART_UNSUPPORTED` at a cartridge address and nothing else, and at cell 0x420B the DMA
faults. WRAM, register and open-bus accesses never fault. -/
def Obligations.BusFaultsAreNamed : Prop :=
  ∀ (a : Addr) (v : Byte) (s t : State) (f : Fault),
    (memRead a s = .raise f t → decodeAddr a = .cart a ∧ f = .cartUnsupported a .read s.opAddr) ∧
    (memWrite a v s = .raise f t → decodeAddr a ≠ .reg 0x420B →
      decodeAddr a = .cart a ∧ f = .cartUnsupported a .write s.opAddr) ∧
    (memWrite a v s = .raise f t → decodeAddr a = .reg 0x420B →
      (∃ b acc, f = .cartUnsupported b acc s.opAddr) ∨ (∃ n ctl, f = .dmaPattern n ctl s.opAddr) ∨
        (∃ n b, f = .dmaAbusRegister n b s.opAddr))

/-! ### Operands and the stack -/

/-- `FetchByte` (R121): PC wraps at 16 bits and K is unchanged. `byteAddr`, `ReadN` and `WriteN` (R152), for operands of one, two
and three bytes. -/
def Obligations.InstructionAndOperandBytes : Prop :=
  (∀ (s s1 : State) (b : Byte), memRead (mkAddr s.k s.pc) s = .ok b s1 →
    fetchByte s = .ok b { s1 with pc := s.pc + 1 } ∧ s1.k = s.k) ∧
  (∀ (base : Addr) (b : Byte) (k : Nat), k < 3 →
    (EA.byteAddr ⟨base, .lin⟩ k).toNat = (base.toNat + k) % 0x1000000 ∧
    EA.byteAddr ⟨base, .bank b⟩ k = mkAddr b (offOf base + BitVec.ofNat 16 k) ∧
    (EA.byteAddr ⟨base, .dpPage⟩ k).toNat = (base.toNat / 0x100 % 0x100) * 0x100 + (base.toNat + k) % 0x100) ∧
  (∀ (ea : EA) (s s1 : State) (b0 : Byte), memRead (ea.byteAddr 0) s = .ok b0 s1 →
    readN ea 1 s = .ok (b0.setWidth 24) s1 ∧
    ∀ (s2 : State) (b1 : Byte), memRead (ea.byteAddr 1) s1 = .ok b1 s2 →
      readN ea 2 s = .ok (mkAddr 0 (mkWord b1 b0)) s2 ∧
      ∀ (s3 : State) (b2 : Byte), memRead (ea.byteAddr 2) s2 = .ok b2 s3 →
        readN ea 3 s = .ok (mkAddr b2 (mkWord b1 b0)) s3) ∧
  (∀ (ea : EA) (v : Word) (s s1 : State), memWrite (ea.byteAddr 0) (loByte v) s = .ok () s1 →
    writeN ea 1 v s = .ok () s1 ∧
    ∀ s2, memWrite (ea.byteAddr 1) (hiByte v) s1 = .ok () s2 → writeN ea 2 v s = .ok () s2)

/-- The direct-page modes (R155, R157-R159). -/
def Obligations.DirectPageAddresses : Prop :=
  (∀ (o : Word) (s : State),
    (s.e = true ∧ loByte s.d = 0 → dpAddr o s = ⟨mkAddr 0 (mkWord (hiByte s.d) (loByte o)), .dpPage⟩) ∧
    (s.e = false ∨ loByte s.d ≠ 0 → dpAddr o s = ⟨mkAddr 0 (s.d + o), .bank 0⟩)) ∧
  ∀ (o : Byte) (s : State),
    getAddress (.dp o) s = .ok (dpAddr (o.setWidth 16) s) s ∧
    getAddress (.dpX o) s = .ok (dpAddr (o.setWidth 16 + viewX s) s) s ∧
    getAddress (.dpY o) s = .ok (dpAddr (o.setWidth 16 + viewY s) s) s

/-- The absolute, long and stack-relative modes (R160-R164, R170): an index carries into the bank. -/
def Obligations.AbsoluteAddresses : Prop :=
  ∀ (a16 : Word) (a24 : Addr) (o : Byte) (s : State),
    getAddress (.abs a16) s = .ok ⟨mkAddr s.dbr a16, .lin⟩ s ∧
    getAddress (.long a24) s = .ok ⟨a24, .lin⟩ s ∧
    getAddress (.sr o) s = .ok ⟨mkAddr 0 (s.sp + o.setWidth 16), .bank 0⟩ s ∧
    (∃ ea, getAddress (.absX a16) s = .ok ea s ∧ ea.wrap = .lin ∧
      ea.base.toNat = (s.dbr.toNat * 0x10000 + a16.toNat + (viewX s).toNat) % 0x1000000) ∧
    (∃ ea, getAddress (.absY a16) s = .ok ea s ∧ ea.wrap = .lin ∧
      ea.base.toNat = (s.dbr.toNat * 0x10000 + a16.toNat + (viewY s).toNat) % 0x1000000) ∧
    (∃ ea, getAddress (.longX a24) s = .ok ea s ∧ ea.wrap = .lin ∧
      ea.base.toNat = (a24.toNat + (viewX s).toNat) % 0x1000000)

/-- The indirect modes (R165-R169, R171): where each reads its pointer, and the address it makes of it. -/
def Obligations.IndirectAddresses : Prop :=
  ∀ (o : Byte) (s s1 : State) (p : Addr),
    let page := dpAddr (o.setWidth 16) s
    (readN page 2 s = .ok p s1 →
      getAddress (.dpInd o) s = .ok ⟨mkAddr s.dbr (offOf p), .lin⟩ s1 ∧
      getAddress (.dpIndY o) s = .ok ⟨mkAddr s.dbr (offOf p) + (viewY s).setWidth 24, .lin⟩ s1) ∧
    (readN (dpAddr (o.setWidth 16 + viewX s) s) 2 s = .ok p s1 →
      getAddress (.dpIndX o) s = .ok ⟨mkAddr s.dbr (offOf p), .lin⟩ s1) ∧
    (readN page 3 s = .ok p s1 →
      getAddress (.dpIndL o) s = .ok ⟨p, .lin⟩ s1 ∧
      getAddress (.dpIndLY o) s = .ok ⟨p + (viewY s).setWidth 24, .lin⟩ s1) ∧
    (readN ⟨mkAddr 0 (s.sp + o.setWidth 16), .bank 0⟩ 2 s = .ok p s1 →
      getAddress (.srIndY o) s = .ok ⟨mkAddr s.dbr (offOf p) + (viewY s).setWidth 24, .lin⟩ s1)

/-- With a cartridge of plain storage every operand can be read and every store away from the DMA-enable register completes: no
access faults, a read changes the latch alone, a pull the latch and S, and the cartridge stays plain storage (R442). How the model
holds the cartridge is its own choice (log 5). -/
def Obligations.PlainCartridgeAccessesComplete : Prop :=
  ∀ s : State, s.cartPlain = true →
    (∀ op w, ∃ v b, getValue op w s = .ok v { s with mdr := b }) ∧
    (∀ mode, ∃ ea b, getAddress mode s = .ok ea { s with mdr := b }) ∧
    (∀ ea n, ∃ v b, readN ea n s = .ok v { s with mdr := b }) ∧
    (∃ v, pop8 s = .ok v { s with sp := pinned s.e (s.sp + 1), mdr := v }) ∧
    (∀ ea (w : Width) v, awayFromDma ea w.bytes → ∃ t, writeN ea w.bytes v s = .ok () t ∧ t.cartPlain = true) ∧
    (∀ v, decodeAddr (mkAddr 0 s.sp) ≠ .reg 0x420B → ∃ t, push8 v s = .ok () t ∧ t.cartPlain = true)

/-- The stack primitives (R95-R98), with the page-1 pin of S while E = 1 (R28): the high byte of a word is pushed first and the
low byte popped first. -/
def Obligations.StackPrimitives : Prop :=
  (∀ (v : Byte) (s s1 : State), memWrite (mkAddr 0 s.sp) v s = .ok () s1 →
    push8 v s = .ok () { s1 with sp := pinned s.e (s.sp - 1) }) ∧
  (∀ s : State, pop8 s = memRead (mkAddr 0 (pinned s.e (s.sp + 1))) { s with sp := pinned s.e (s.sp + 1) }) ∧
  (∀ (v : Word) (s s1 : State), push8 (hiByte v) s = .ok () s1 → push16 v s = push8 (loByte v) s1) ∧
  (∀ (lo hi : Byte) (s s1 s2 : State), pop8 s = .ok lo s1 → pop8 s1 = .ok hi s2 → pop16 s = .ok (mkWord hi lo) s2)

/-- A word on the stack lies little-endian and comes back (R87, R97, R98): with the stack in WRAM, `push16` leaves the low byte at
S+1 and the high byte at S+2, and `pop16` then returns the word and restores S. -/
def Obligations.StackedWordsComeBack : Prop :=
  ∀ (v : Word) (s : State), s.memoriesOk = true → stackInWram s 2 = true →
    ∃ t u, push16 v s = .ok () t ∧ t.sp = pinned s.e (s.sp - 2) ∧
      stackByte t (pinned s.e (t.sp + 1)) = loByte v ∧ stackByte t (pinned s.e (t.sp + 2)) = hiByte v ∧
      pop16 t = .ok v u ∧ u.sp = s.sp ∧ u.wram = t.wram

/-! ### Loads, stores, transfers -/

/-- LDA, LDX, LDY in every form (R200-R202). -/
def Obligations.LoadsWriteTheOperand : Prop :=
  ∀ o a16 a24 v,
    ReadThen (ldaForms o a16 a24 v) State.wM (fun _ => True) (fun m s => withNZ (widthOf s.p.m) m (putA m s)) ∧
    ReadThen (ldxForms o a16 v) State.wX (fun _ => True) (fun m s => withNZ (widthOf s.p.x) m (putX m s)) ∧
    ReadThen (ldyForms o a16 v) State.wX (fun _ => True) (fun m s => withNZ (widthOf s.p.x) m (putY m s))

/-- STA, STX, STY, STZ in every form (R203-R206). -/
def Obligations.StoresWriteTheRegister : Prop :=
  ∀ o a16 a24,
    Stores (staMemForms o a16 a24) State.wM viewA ∧ Stores (stxMemForms o a16) State.wX viewX ∧
    Stores (styMemForms o a16) State.wX viewY ∧ Stores (stzMemForms o a16) State.wM (fun _ => 0)

/-- TAX, TAY, TXA, TYA, TXY, TYX, TSX (R208, R210-R216): the whole source cell, at the destination's width. -/
def Obligations.TransfersTakeTheDestinationWidth : Prop :=
  ∀ s : State,
    let w := widthOf s.p.x
    (encodedAs .tax 0xAA ∧ exec .tax s = .next (withNZ w s.a (putX s.a s))) ∧
    (encodedAs .tay 0xA8 ∧ exec .tay s = .next (withNZ w s.a (putY s.a s))) ∧
    (encodedAs .txa 0x8A ∧ exec .txa s = .next (withNZ (widthOf s.p.m) s.x (putA s.x s))) ∧
    (encodedAs .tya 0x98 ∧ exec .tya s = .next (withNZ (widthOf s.p.m) s.y (putA s.y s))) ∧
    (encodedAs .txy 0x9B ∧ exec .txy s = .next (withNZ w s.x (putY s.x s))) ∧
    (encodedAs .tyx 0xBB ∧ exec .tyx s = .next (withNZ w s.y (putX s.y s))) ∧
    (encodedAs .tsx 0xBA ∧ exec .tsx s = .next (withNZ w s.sp (putX s.sp s)))

/-- TXS, TCS, TSC, TCD, TDC, XBA (R217-R222): sixteen bits whatever M, and XBA's flags from the new AL. -/
def Obligations.SixteenBitTransfers : Prop :=
  ∀ s : State,
    (encodedAs .txs 0x9A ∧ exec .txs s = .next { s with sp := pinned s.e s.x }) ∧
    (encodedAs .tcs 0x1B ∧ exec .tcs s = .next { s with sp := pinned s.e s.a }) ∧
    (encodedAs .tsc 0x3B ∧ exec .tsc s = .next (withNZ .w16 s.sp { s with a := s.sp })) ∧
    (encodedAs .tcd 0x5B ∧ exec .tcd s = .next (withNZ .w16 s.a { s with d := s.a })) ∧
    (encodedAs .tdc 0x7B ∧ exec .tdc s = .next (withNZ .w16 s.d { s with a := s.d })) ∧
    (encodedAs .xba 0xEB ∧
      exec .xba s = .next (withNZ .w8 ((hiByte s.a).setWidth 16) { s with a := (s.a >>> 8) ||| (s.a <<< 8) }))

/-- MVN and MVP (R225, R226): DBR takes the destination bank, and C16 + 1 bytes move, X and Y stepping up or down. A byte whose
access raises ends the instruction there, with the bytes before it moved. -/
def Obligations.BlockMovesMoveEveryByte : Prop :=
  ∀ (dbk sbk : Byte) (s : State),
    ∀ p ∈ [((0x54 : Byte), (1 : Word), Instr.mvn dbk sbk), (0x44, 0xFFFF, .mvp dbk sbk)],
      encodedAs p.2.2 p.1 ∧
      (∀ t, Moves p.2.1 dbk sbk (s.a.toNat + 1) { s with dbr := dbk } t → exec p.2.2 s = .next t) ∧
      (∀ n t f u, n ≤ s.a.toNat → Moves p.2.1 dbk sbk n { s with dbr := dbk } t →
        ((memRead (mkAddr sbk (viewX t)) t).bind fun v t1 => memWrite (mkAddr dbk (viewY t1)) v t1) = .raise f u →
        exec p.2.2 s = .next { u with fault := some f })

/-- Where a block move ends (R225, R226): with a cartridge of plain storage (the model's choice, log 5) and no destination byte at
the DMA-enable register it completes, C16 is 0xFFFF, DBR is the destination bank, and X and Y have stepped C16 + 1 times at their
width. -/
def Obligations.BlockMovesEnd : Prop :=
  ∀ (dbk sbk : Byte) (s : State), s.cartPlain = true →
    ((∀ k ≤ s.a.toNat, decodeAddr (moveTarget 1 dbk s k) ≠ .reg 0x420B) →
      ∃ t, exec (.mvn dbk sbk) s = .next t ∧ t.a = 0xFFFF ∧ t.dbr = dbk ∧ t.fault = s.fault ∧
        t.x = (if s.p.x then (s.x + s.a + 1) &&& 0x00FF else s.x + s.a + 1) ∧
        t.y = (if s.p.x then (s.y + s.a + 1) &&& 0x00FF else s.y + s.a + 1)) ∧
    ((∀ k ≤ s.a.toNat, decodeAddr (moveTarget 0xFFFF dbk s k) ≠ .reg 0x420B) →
      ∃ t, exec (.mvp dbk sbk) s = .next t ∧ t.a = 0xFFFF ∧ t.dbr = dbk ∧ t.fault = s.fault ∧
        t.x = (if s.p.x then (s.x - s.a - 1) &&& 0x00FF else s.x - s.a - 1) ∧
        t.y = (if s.p.x then (s.y - s.a - 1) &&& 0x00FF else s.y - s.a - 1))

/-! ### Arithmetic and logic -/

/-- ADC in every form (R251), and the decimal check of R250: with D = 1 nothing is read or written but the fault. -/
def Obligations.AddWithCarry : Prop :=
  ∀ o a16 a24 v,
    ReadThen (adcForms o a16 a24 v) State.wM (fun s => s.p.d = false) added ∧
    ∀ f ∈ adcForms o a16 a24 v, ∀ s : State, s.p.d = true →
      exec f.instr s = .next { s with fault := some (.decimalMode s.opAddr f.opcode) }

/-- SBC in every form (R252), and the decimal check of R250. -/
def Obligations.SubtractWithBorrow : Prop :=
  ∀ o a16 a24 v,
    ReadThen (sbcForms o a16 a24 v) State.wM (fun s => s.p.d = false) subtracted ∧
    ∀ f ∈ sbcForms o a16 a24 v, ∀ s : State, s.p.d = true →
      exec f.instr s = .next { s with fault := some (.decimalMode s.opAddr f.opcode) }

/-- V of ADC and SBC is the two's-complement overflow, and C the unsigned carry or no borrow (R275). -/
def Obligations.OverflowAndCarryAreArithmetic : Prop :=
  ∀ (w : Width) (a m : Word) (c : Bool), a.toNat < modulus w → m.toNat < modulus w →
    ((addWithCarry w a m c).overflow = true ↔
      ¬(-(modulus w / 2 : Int) ≤ signed w a + signed w m + c.toNat ∧
        signed w a + signed w m + c.toNat < (modulus w / 2 : Int))) ∧
    ((addWithCarry w a m c).carry = true ↔ modulus w ≤ a.toNat + m.toNat + c.toNat) ∧
    ((subWithBorrow w a m c).overflow = true ↔
      ¬(-(modulus w / 2 : Int) ≤ signed w a - signed w m - (!c).toNat ∧
        signed w a - signed w m - (!c).toNat < (modulus w / 2 : Int))) ∧
    ((subWithBorrow w a m c).carry = true ↔ m.toNat + (!c).toNat ≤ a.toNat)

/-- CMP, CPX, CPY in every form, whatever D is (R253-R255). -/
def Obligations.ComparesSetTheFlags : Prop :=
  ∀ o a16 a24 v,
    ReadThen (cmpForms o a16 a24 v) State.wM (fun _ => True) (fun m s => compared (widthOf s.p.m) (viewA s) m s) ∧
    ReadThen (cpxForms o a16 v) State.wX (fun _ => True) (fun m s => compared (widthOf s.p.x) (viewX s) m s) ∧
    ReadThen (cpyForms o a16 v) State.wX (fun _ => True) (fun m s => compared (widthOf s.p.x) (viewY s) m s)

/-- INX, INY, DEX, DEY (R258-R261). -/
def Obligations.IndexModifications : Prop :=
  ∀ s : State,
    let w := widthOf s.p.x
    (encodedAs .inx 0xE8 ∧ exec .inx s = .next (withNZ w (viewX s + 1) (putX (viewX s + 1) s))) ∧
    (encodedAs .iny 0xC8 ∧ exec .iny s = .next (withNZ w (viewY s + 1) (putY (viewY s + 1) s))) ∧
    (encodedAs .dex 0xCA ∧ exec .dex s = .next (withNZ w (viewX s - 1) (putX (viewX s - 1) s))) ∧
    (encodedAs .dey 0x88 ∧ exec .dey s = .next (withNZ w (viewY s - 1) (putY (viewY s - 1) s)))

/-- INC, DEC, ASL, LSR, ROL, ROR on memory and on the accumulator, TSB and TRB on memory (R256, R257, R266-R271, R276). -/
def Obligations.ModifyingInstructions : Prop :=
  (∀ o a16,
    Modifies (incMemForms o a16) (fun w v _ => wrapped w (v.toNat + 1)) (fun _ _ s => s.p) true ∧
    Modifies (decMemForms o a16) (fun w v _ => wrapped w (v.toNat + (modulus w - 1))) (fun _ _ s => s.p) true ∧
    Modifies (aslMemForms o a16) (fun w v _ => shiftedLeft false w v) carryLeft true ∧
    Modifies (lsrMemForms o a16) (fun w v _ => shiftedRight false w v) carryRight true ∧
    Modifies (rolMemForms o a16) (fun w v s => shiftedLeft s.p.c w v) carryLeft true ∧
    Modifies (rorMemForms o a16) (fun w v s => shiftedRight s.p.c w v) carryRight true ∧
    Modifies (tsbMemForms o a16) (fun _ v s => v ||| viewA s) (fun _ v s => testedZ v s) false ∧
    Modifies (trbMemForms o a16) (fun _ v s => v &&& ~~~viewA s) (fun _ v s => testedZ v s) false) ∧
  ∀ s : State,
    let w := widthOf s.p.m
    let a := viewA s
    (encodedAs .incAcc 0x1A ∧ exec .incAcc s = .next (accResult (wrapped w (a.toNat + 1)) s.p s)) ∧
    (encodedAs .decAcc 0x3A ∧ exec .decAcc s = .next (accResult (wrapped w (a.toNat + (modulus w - 1))) s.p s)) ∧
    (encodedAs .aslAcc 0x0A ∧ exec .aslAcc s = .next (accResult (shiftedLeft false w a) (carryLeft w a s) s)) ∧
    (encodedAs .lsrAcc 0x4A ∧ exec .lsrAcc s = .next (accResult (shiftedRight false w a) (carryRight w a s) s)) ∧
    (encodedAs .rolAcc 0x2A ∧ exec .rolAcc s = .next (accResult (shiftedLeft s.p.c w a) (carryLeft w a s) s)) ∧
    (encodedAs .rorAcc 0x6A ∧ exec .rorAcc s = .next (accResult (shiftedRight s.p.c w a) (carryRight w a s) s))

/-- AND, ORA, EOR in every form (R262-R264). -/
def Obligations.LogicWritesTheAccumulator : Prop :=
  ∀ o a16 a24 v,
    ReadThen (andForms o a16 a24 v) State.wM (fun _ => True)
      (fun m s => withNZ (widthOf s.p.m) (viewA s &&& m) (putA (viewA s &&& m) s)) ∧
    ReadThen (oraForms o a16 a24 v) State.wM (fun _ => True)
      (fun m s => withNZ (widthOf s.p.m) (viewA s ||| m) (putA (viewA s ||| m) s)) ∧
    ReadThen (eorForms o a16 a24 v) State.wM (fun _ => True)
      (fun m s => withNZ (widthOf s.p.m) (viewA s ^^^ m) (putA (viewA s ^^^ m) s))

/-- BIT (R265): Z always, and N and V from the operand's two top bits for the memory forms only. -/
def Obligations.BitTests : Prop :=
  ∀ o a16 v,
    ReadThen ((bitMemForms o a16).map fun f => ⟨f.opcode, f.instr, .mem f.operand⟩) State.wM (fun _ => True)
      (fun m s => { s with p := { testedZ m s with
                                  n := m.getLsbD ((widthOf s.p.m).bits - 1), v := m.getLsbD ((widthOf s.p.m).bits - 2) } }) ∧
    ReadThen [⟨0x89, .bitImmM v, .imm v⟩] State.wM (fun _ => True) (fun m s => { s with p := testedZ m s })

/-! ### Control transfer -/

/-- The branches (R301-R310): the target, the condition, and nothing else written. JMP and JML (R311, R312): where the pointer is
read, and which of PC and K is written. -/
def Obligations.BranchesAndJumps : Prop :=
  ∀ (r : Byte) (r16 a16 : Word) (a24 : Addr) (s : State),
    let goes (taken : Bool) : Host.Outcome State Fault Refusal :=
      .next (if taken then { s with pc := s.pc + r.signExtend 16 } else s)
    (encodedAs (.bpl r) 0x10 ∧ exec (.bpl r) s = goes (!s.p.n)) ∧ (encodedAs (.bmi r) 0x30 ∧ exec (.bmi r) s = goes s.p.n) ∧
    (encodedAs (.bvc r) 0x50 ∧ exec (.bvc r) s = goes (!s.p.v)) ∧ (encodedAs (.bvs r) 0x70 ∧ exec (.bvs r) s = goes s.p.v) ∧
    (encodedAs (.bcc r) 0x90 ∧ exec (.bcc r) s = goes (!s.p.c)) ∧ (encodedAs (.bcs r) 0xB0 ∧ exec (.bcs r) s = goes s.p.c) ∧
    (encodedAs (.bne r) 0xD0 ∧ exec (.bne r) s = goes (!s.p.z)) ∧ (encodedAs (.beq r) 0xF0 ∧ exec (.beq r) s = goes s.p.z) ∧
    (encodedAs (.bra r) 0x80 ∧ exec (.bra r) s = goes true) ∧
    (encodedAs (.brl r16) 0x82 ∧ exec (.brl r16) s = .next { s with pc := s.pc + r16 }) ∧
    (encodedAs (.jmpAbsJ a16) 0x4C ∧ exec (.jmpAbsJ a16) s = .next { s with pc := a16 }) ∧
    (encodedAs (.jmpAbsInd a16) 0x6C ∧
      Runs ((readN ⟨mkAddr 0 a16, .bank 0⟩ 2 s).bind fun p t => .ok () { t with pc := offOf p }) (.jmpAbsInd a16) s) ∧
    (encodedAs (.jmpAbsIndX a16) 0x7C ∧
      Runs ((readN ⟨mkAddr s.k (a16 + viewX s), .bank s.k⟩ 2 s).bind fun p t => .ok () { t with pc := offOf p })
        (.jmpAbsIndX a16) s) ∧
    (encodedAs (.jmlLongJ a24) 0x5C ∧ exec (.jmlLongJ a24) s = .next { s with k := bankOf a24, pc := offOf a24 }) ∧
    (encodedAs (.jmlAbsIndL a16) 0xDC ∧
      Runs ((readN ⟨mkAddr 0 a16, .bank 0⟩ 3 s).bind fun p t => .ok () { t with k := bankOf p, pc := offOf p })
        (.jmlAbsIndL a16) s)

/-- JSR, JSL, RTS, RTL (R313-R316): what is pushed or pulled, in which order, and where control goes. -/
def Obligations.CallsAndReturns : Prop :=
  ∀ (a16 : Word) (a24 : Addr) (s : State),
    (encodedAs (.jsrAbsJ a16) 0x20 ∧
      Runs ((push16 (s.pc - 1) s).bind fun _ t => .ok () { t with pc := a16 }) (.jsrAbsJ a16) s) ∧
    (encodedAs (.jsrAbsIndX a16) 0xFC ∧
      Runs ((push16 (s.pc - 1) s).bind fun _ t =>
        (readN ⟨mkAddr t.k (a16 + viewX t), .bank t.k⟩ 2 t).bind fun p u => .ok () { u with pc := offOf p })
        (.jsrAbsIndX a16) s) ∧
    (encodedAs (.jsl a24) 0x22 ∧
      Runs ((push8 s.k s).bind fun _ t => (push16 (s.pc - 1) t).bind fun _ u =>
        .ok () { u with k := bankOf a24, pc := offOf a24 }) (.jsl a24) s) ∧
    (encodedAs .rts 0x60 ∧ Runs ((pop16 s).bind fun r t => .ok () { t with pc := r + 1 }) .rts s) ∧
    (encodedAs .rtl 0x6B ∧
      Runs ((pop16 s).bind fun r t => (pop8 t).bind fun k u => .ok () { u with k := k, pc := r + 1 }) .rtl s)

/-- A return undoes its call (R313-R316): with the stack in WRAM and untouched, RTS after JSR and RTL after JSL resume at the
instruction after the call, with S and K restored. -/
def Obligations.ReturnsUndoCalls : Prop :=
  ∀ (a16 : Word) (a24 : Addr) (s : State), s.memoriesOk = true →
    (stackInWram s 2 = true → ∃ t u, exec (.jsrAbsJ a16) s = .next t ∧ t.pc = a16 ∧ exec .rts t = .next u ∧
      u.pc = s.pc ∧ u.k = s.k ∧ u.sp = s.sp) ∧
    (stackInWram s 3 = true → ∃ t u, exec (.jsl a24) s = .next t ∧ t.k = bankOf a24 ∧ t.pc = offOf a24 ∧
      exec .rtl t = .next u ∧ u.pc = s.pc ∧ u.k = s.k ∧ u.sp = s.sp)

/-! ### Stack, flag and system instructions -/

/-- The pushes (R340-R349): the value, its width, and through which primitive. -/
def Obligations.PushesPushTheValue : Prop :=
  ∀ (v r16 : Word) (o : Byte) (s : State),
    let at8 (flag : Bool) (r : Word) : Res Unit := if flag then push8 (r.setWidth 8) s else push16 r s
    (encodedAs .pha 0x48 ∧ Runs (at8 s.p.m s.a) .pha s) ∧ (encodedAs .phx 0xDA ∧ Runs (at8 s.p.x s.x) .phx s) ∧
    (encodedAs .phy 0x5A ∧ Runs (at8 s.p.x s.y) .phy s) ∧ (encodedAs .php 0x08 ∧ Runs (push8 s.p.toByte s) .php s) ∧
    (encodedAs .phb 0x8B ∧ Runs (push8 s.dbr s) .phb s) ∧ (encodedAs .phk 0x4B ∧ Runs (push8 s.k s) .phk s) ∧
    (encodedAs .phd 0x0B ∧ Runs (push16 s.d s) .phd s) ∧ (encodedAs (.pea v) 0xF4 ∧ Runs (push16 v s) (.pea v) s) ∧
    (encodedAs (.pei o) 0xD4 ∧
      Runs ((readN (dpAddr (o.setWidth 16) s) 2 s).bind fun p t => push16 (offOf p) t) (.pei o) s) ∧
    (encodedAs (.per r16) 0x62 ∧ Runs (push16 (s.pc + r16) s) (.per r16) s)

/-- The pulls (R350-R355): the width, the register, and N and Z, or all of P through `WriteP`. -/
def Obligations.PullsWriteTheRegister : Prop :=
  ∀ s : State,
    let at8 (flag : Bool) : Res Word := if flag then (pop8 s).bind fun b t => .ok (b.setWidth 16) t else pop16 s
    (encodedAs .pla 0x68 ∧ Runs ((at8 s.p.m).bind fun v t => .ok () (withNZ (widthOf s.p.m) v (putA v t))) .pla s) ∧
    (encodedAs .plx 0xFA ∧ Runs ((at8 s.p.x).bind fun v t => .ok () (withNZ (widthOf s.p.x) v (putX v t))) .plx s) ∧
    (encodedAs .ply 0x7A ∧ Runs ((at8 s.p.x).bind fun v t => .ok () (withNZ (widthOf s.p.x) v (putY v t))) .ply s) ∧
    (encodedAs .plp 0x28 ∧ Runs ((pop8 s).bind fun v t => .ok () (statusWritten v t)) .plp s) ∧
    (encodedAs .plb 0xAB ∧ Runs ((pop8 s).bind fun v t => .ok () (withNZ .w8 (v.setWidth 16) { t with dbr := v })) .plb s) ∧
    (encodedAs .pld 0x2B ∧ Runs ((pop16 s).bind fun v t => .ok () (withNZ .w16 v { t with d := v })) .pld s)

/-- CLC, SEC, CLI, SEI, CLD, SED, CLV (R360-R364, R367, R368): one flag and nothing else; WAI, STP, NOP, WDM (R383-R386). -/
def Obligations.FlagAndWaitInstructions : Prop :=
  ∀ (b : Byte) (s : State),
    (encodedAs .clc 0x18 ∧ exec .clc s = .next { s with p := { s.p with c := false } }) ∧
    (encodedAs .sec 0x38 ∧ exec .sec s = .next { s with p := { s.p with c := true } }) ∧
    (encodedAs .cli 0x58 ∧ exec .cli s = .next { s with p := { s.p with i := false } }) ∧
    (encodedAs .sei 0x78 ∧ exec .sei s = .next { s with p := { s.p with i := true } }) ∧
    (encodedAs .cld 0xD8 ∧ exec .cld s = .next { s with p := { s.p with d := false } }) ∧
    (encodedAs .sed 0xF8 ∧ exec .sed s = .next { s with p := { s.p with d := true } }) ∧
    (encodedAs .clv 0xB8 ∧ exec .clv s = .next { s with p := { s.p with v := false } }) ∧
    (encodedAs .wai 0xCB ∧ exec .wai s = .next { s with waiting := true }) ∧
    (encodedAs .stp 0xDB ∧ exec .stp s = .next { s with stopped := true }) ∧
    (encodedAs .nop 0xEA ∧ exec .nop s = .next s) ∧
    (encodedAs (.wdm b) 0x42 ∧ exec (.wdm b) s = .next s)

/-- REP and SEP (R365, R366): every bit of P named by the mask, through `WriteP`. -/
def Obligations.RepAndSepWriteP : Prop :=
  ∀ (mask : Byte) (s : State),
    (encodedAs (.rep mask) 0xC2 ∧ exec (.rep mask) s = .next (statusWritten (s.p.toByte &&& ~~~mask) s)) ∧
    (encodedAs (.sep mask) 0xE2 ∧ exec (.sep mask) s = .next (statusWritten (s.p.toByte ||| mask) s))

/-- XCE (R370, R31): C and E change places, and entering emulation forces M, X, XH, YH and SH. -/
def Obligations.XceExchangesCarryAndEmulation : Prop :=
  ∀ s : State, encodedAs .xce 0xFB ∧
    (s.p.c = false → exec .xce s = .next { s with e := false, p := { s.p with c := s.e } }) ∧
    (s.p.c = true → exec .xce s = .next
      { s with e := true, p := { s.p with c := s.e, m := true, x := true }
               x := s.x &&& 0x00FF, y := s.y &&& 0x00FF, sp := 0x0100 ||| (s.sp &&& 0x00FF) })

/-- BRK and COP take their exception (R380, R382): what R421 says, with PC past the signature byte. RTI (R381) pulls P through
`WriteP`, then PC as popped, then K in native mode. -/
def Obligations.TrapsAndReturnFromInterrupt : Prop :=
  ∀ (b : Byte) (s : State),
    (encodedAs (.brk b) 0x00 ∧ Runs (entered .brk s) (.brk b) s) ∧
    (encodedAs (.cop b) 0x02 ∧ Runs (entered .cop s) (.cop b) s) ∧
    (encodedAs .rti 0x40 ∧
      Runs ((pop8 s).bind fun p s1 => (pop16 (statusWritten p s1)).bind fun pc s2 =>
        if s.e then .ok () { s2 with pc := pc } else (pop8 { s2 with pc := pc }).bind fun k s3 => .ok () { s3 with k := k })
        .rti s)

/-- Entry for every kind but RESET (R421): the pushes in their order, the B bit of the pushed P, the flags, K and the vector. The
B bit of COP in emulation mode is the open parameter `COP_EMU_B`. With the stack in WRAM, each byte of the frame in its place
and S past them (R95, R97). -/
def Obligations.EntryStacksTheFrame : Prop :=
  (∀ (k : IntKind) (s : State), k ≠ .reset → enter k s = entered k s) ∧
  ∀ (k : IntKind) (s : State), k ≠ .reset → s.memoriesOk = true → stackInWram s (if s.e then 3 else 4) = true →
    ∃ t, enter k s = .ok () t ∧ t.pc = entryVector s.vt k s.e ∧ t.k = 0 ∧ t.p = { s.p with i := true, d := false } ∧
      t.e = s.e ∧ t.sp = pinned s.e (s.sp - (if s.e then 3 else 4)) ∧
      (s.e = false → stackByte t (t.sp + 4) = s.k ∧ stackByte t (t.sp + 3) = hiByte s.pc ∧
        stackByte t (t.sp + 2) = loByte s.pc ∧ stackByte t (t.sp + 1) = s.p.toByte) ∧
      (s.e = true → stackByte t (pinned true (t.sp + 3)) = hiByte s.pc ∧ stackByte t (pinned true (t.sp + 2)) = loByte s.pc ∧
        stackByte t (pinned true (t.sp + 1)) = { s.p with x := breakBit k }.toByte)

/-- RTI is the inverse of an entry (R425): from any well-formed state with the stack in WRAM, RTI in the entered state restores PC,
P, S and, in native mode, K, and keeps the other registers. -/
def Obligations.RtiUndoesEntry : Prop :=
  ∀ (k : IntKind) (s : State), k ≠ .reset → s.Inv = true → stackInWram s (if s.e then 3 else 4) = true →
    ∃ t u, enter k s = .ok () t ∧ exec .rti t = .next u ∧ u.pc = s.pc ∧ u.p = s.p ∧ u.sp = s.sp ∧ u.e = s.e ∧
      u.k = (if s.e then 0 else s.k) ∧ u.a = s.a ∧ u.x = s.x ∧ u.y = s.y ∧ u.d = s.d ∧ u.dbr = s.dbr

/-! ### The step, dispatch, reset -/

/-- What a step does (R400, R403, R412, R420): a faulted machine takes none; a stopped one dispatches RESET or idles; a pending
request that is not a masked IRQ is dispatched, with the slot and the wait flag cleared; a waiting machine idles; any other
executes one instruction. Two clauses are the model's choice: that the step of a faulted machine is the outcome `.fault`, where R403
says only that it does not happen (log 6), and that a dispatch notes K:PC in `opAddr`, where R401 notes the address of an executed
instruction only (log 8). -/
def Obligations.StepChoosesItsAction : Prop :=
  ∀ s : State,
    (∀ f, s.fault = some f → step s = .fault f) ∧
    (s.fault = none → s.stopped = true → s.pending ≠ some .reset → step s = .next s) ∧
    (s.fault = none → s.pending = some .reset → step s = finish (dispatch .reset s)) ∧
    (∀ k, s.fault = none → s.stopped = false → s.pending = some k → k ≠ .reset → ¬(k = .irq ∧ s.p.i = true) →
      step s = finish (enter k { s with opAddr := mkAddr s.k s.pc, pending := none, waiting := false })) ∧
    (s.fault = none → s.stopped = false → s.waiting = true →
      (s.pending = none ∨ (s.pending = some .irq ∧ s.p.i = true)) → step s = .next s) ∧
    (executes s → step s = executeOne s)

/-- The fatal conditions of a step (R40, R401, R415, R440, R441): a step of a machine without a fault that records one records a
condition the rules name, at the K:PC the step began with, and the machine takes no further step. The conditions R122 and R77 call
unreachable are never recorded. For an executed instruction that K:PC is its opcode's address (R401). Two clauses are the model's
choice: the address recorded in a fault of a dispatch, which fetches no opcode, and so `t.opAddr` there (log 8), and the outcome
`.fault` of the next step, where R403 says only that it does not happen (log 6). -/
def Obligations.StepRecordsNamedFaults : Prop :=
  ∀ (s t : State) (f : Fault), s.fault = none → step s = .next t → t.fault = some f →
    let at_ := mkAddr s.k s.pc
    t.opAddr = at_ ∧ step t = .fault f ∧
    ((∃ i op, (i.mnemonic = .adc ∨ i.mnemonic = .sbc) ∧ encodedAs i op ∧ s.p.d = true ∧ f = .decimalMode at_ op) ∨
      (∃ a acc, decodeAddr a = .cart a ∧ f = .cartUnsupported a acc at_) ∨
      (∃ n ctl, n < 8 ∧ 4 < ctl.toNat % 8 ∧ f = .dmaPattern n ctl at_) ∨
      (∃ n a o, n < 8 ∧ decodeAddr a = .reg o ∧ f = .dmaAbusRegister n a at_))

/-- Reset (R471, R480, R482): what a RESET dispatch and the host's `reset()` leave, for some draw of the values the rules leave
unspecified, and that the power-on state holds, for every draw given to it, the values of that very draw: A, XL, YL, SL, N, V, Z, C
and the latch. -/
def Obligations.ResetState : Prop :=
  let resetBy (dr : ResetDraw) (s t : State) : Prop := ∃ n : Nat,
    t = { s with a := dr.a, x := dr.xl.setWidth 16, y := dr.yl.setWidth 16, sp := 0x0100 ||| dr.sl.setWidth 16
                 d := 0, dbr := 0, k := 0, pc := s.vt.emulation.reset, mdr := dr.mdr, e := true
                 p := ⟨dr.n, dr.v, true, true, false, true, dr.z, dr.c⟩
                 pending := none, waiting := false, stopped := false, opAddr := t.opAddr, draws := n }
  (∀ s : State, s.fault = none → s.pending = some .reset → ∃ t dr, step s = .next t ∧ resetBy dr s t) ∧
  (∀ s : State, ∃ dr, resetBy dr s s.hostReset) ∧
  (∀ dr wram cells cart vt, let t := State.powerOn dr wram cells cart vt
    resetBy dr t t ∧ t.fault = none ∧ t.wram = wram ∧ t.cells = cells ∧ t.cart = cart ∧ t.vt = vt)

/-- A step runs the instruction at K:PC: where the bytes of a well-formed instruction stand there in plain storage, the step is its
execution with PC past it, the latch at its last byte, and its address noted (R121, R122, R401). -/
def Obligations.StepRunsTheDecodedInstruction : Prop :=
  ∀ (i : Instr) (s : State), executes s → i.wellFormed s.p.m s.p.x = true →
    (∀ j b, (encode i)[j]? = some b → s.peek (mkAddr s.k (s.pc + BitVec.ofNat 16 j)) = some b) →
    step s = exec i { s with opAddr := mkAddr s.k s.pc, pc := s.pc + BitVec.ofNat 16 (encode i).length
                             mdr := (encode i).getLastD 0 }

/-! ### DMA and the host -/

/-- The DMA engine (R453-R455): enabled channels run in ascending order; patterns 5-7 raise before any byte moves; byte k of a
transfer uses the register its pattern gives; a channel moves `size` bytes and then writes its registers back; a CPU-bus address
in the register surface, or an access that raises, ends it after the bytes before it. -/
def Obligations.DmaMovesBytesInOrder : Prop :=
  (∀ (v : Byte) (s : State), dmaTrigger v s =
    (([0, 1, 2, 3, 4, 5, 6, 7].filter fun n => v.getLsbD n).foldl (fun r n => r.bind fun _ t => dmaChannel n t) (.ok () s))) ∧
  (∀ (bbad : Byte) (k : Nat), let reg (j : Nat) : Nat := 0x2100 + (bbad.toNat + j) % 0x100
    (dmaBAddr 0 bbad k).toNat = reg 0 ∧ (dmaBAddr 1 bbad k).toNat = reg (k % 2) ∧ (dmaBAddr 2 bbad k).toNat = reg 0 ∧
    (dmaBAddr 3 bbad k).toNat = reg (k % 4 / 2) ∧ (dmaBAddr 4 bbad k).toNat = reg (k % 4)) ∧
  ∀ (n : Nat) (s : State),
    let base := 0x4300 + 0x10 * n
    let ctl := s.cells.read base
    let bbad := s.cells.read (base + 1)
    let off := mkWord (s.cells.read (base + 3)) (s.cells.read (base + 2))
    let bank := s.cells.read (base + 4)
    let size := mkWord (s.cells.read (base + 6)) (s.cells.read (base + 5))
    (4 < ctl.toNat % 8 → dmaChannel n s = .raise (.dmaPattern n ctl s.opAddr) s) ∧
    (ctl.toNat % 8 ≤ 4 →
      (∀ off' t, Transfers ctl bbad bank 0 off s size.toNat off' t → dmaChannel n s = .ok () { t with
        cells := (((t.cells.write (base + 2) (loByte off')).write (base + 3) (hiByte off')).write (base + 5) 0).write (base + 6) 0 }) ∧
      (∀ k off' t, k < size.toNat → Transfers ctl bbad bank 0 off s k off' t →
        let a := mkAddr bank off'
        let b := dmaBAddr (ctl.toNat % 8) bbad k
        (∀ o, decodeAddr a = .reg o → dmaChannel n s = .raise (.dmaAbusRegister n a s.opAddr) t) ∧
        (∀ f u, (∀ o, decodeAddr a ≠ .reg o) →
          (if ctl.toNat < 0x80 then (memRead a t).bind fun v t1 => memWrite b v t1
            else (memRead b t).bind fun v t1 => memWrite a v t1) = .raise f u →
          dmaChannel n s = .raise f u)))

/-- What a transfer that completes leaves (R455): the transfer size is 0, the CPU-bus offset has advanced by the size times the step, the
bank and the channel's other registers stay, and so does every register of the CPU. -/
def Obligations.CompletedDmaLeaves : Prop :=
  ∀ (n : Nat) (s t : State), n < 8 → s.memoriesOk = true → dmaChannel n s = .ok () t →
    let base := 0x4300 + 0x10 * n
    let ctl := s.cells.read base
    let size := mkWord (s.cells.read (base + 6)) (s.cells.read (base + 5))
    let stepBy : Word := if ctl.getLsbD 3 then 0 else if ctl.getLsbD 4 then 0xFFFF else 1
    t.cells.read (base + 5) = 0 ∧ t.cells.read (base + 6) = 0 ∧
    mkWord (t.cells.read (base + 3)) (t.cells.read (base + 2)) =
      mkWord (s.cells.read (base + 3)) (s.cells.read (base + 2)) + size * stepBy ∧
    (∀ o, 0x4000 ≤ o → o ∉ [base + 2, base + 3, base + 5, base + 6] → t.cells.read o = s.cells.read o) ∧
    t = { s with mdr := t.mdr, wram := t.wram, cells := t.cells, cart := t.cart }

/-- What other agents do between steps (R410, R470): the last request wins, a collaborator's cell write changes that cell alone
with no DMA, and it cannot write the core's own cells. -/
def Obligations.HostEventsBetweenSteps : Prop :=
  ∀ (s : State) (k j : IntKind) (o : Nat) (v : Byte),
    (HostEvent.setRequest k).apply s = { s with pending := some k } ∧
    (HostEvent.setRequest j).apply ((HostEvent.setRequest k).apply s) = { s with pending := some j } ∧
    (isSharedCell o = true → s.memoriesOk = true →
      let t := (HostEvent.writeCell o v).apply s
      t = { s with cells := t.cells } ∧ t.readCell o = v ∧ ∀ o', o' ≠ o → t.readCell o' = s.readCell o') ∧
    (o = 0x420B ∨ (0x4300 ≤ o ∧ o ≤ 0x437F) → (HostEvent.writeCell o v).apply s = s)

/-! ### Invariants and frames -/

/-- The state after reset is well-formed: memories in canonical form, and the width rules (R22, R31, R48). The values it names where
the spec gives none are the model's choice (log 1, log 2, log 4). -/
def Obligations.ResetIsWellFormed : Prop := State.reset.Inv = true

/-- Every step keeps a well-formed state well-formed: XH = YH = 0 whenever X = 1 (R22), M = X = 1 and SH = 0x01 whenever E = 1
(R31), and every memory in canonical form. So does every event of another agent between steps (R470, R471). -/
def Obligations.StepKeepsTheInvariant : Prop :=
  (∀ s t : State, s.Inv = true → step s = .next t → t.Inv = true) ∧
  (∀ (ev : HostEvent) (s : State), s.Inv = true → (ev.apply s).Inv = true)

/-- Which instructions write which register (R28, R29, R31): every other instruction leaves it alone, whatever the operands. The
index registers also lose their high bytes where P is written with X = 1 (R33). -/
def Obligations.RegistersWrittenOnlyByTheirInstructions : Prop :=
  ∀ (i : Instr) (s t : State), exec i s = .next t →
    (i.mnemonic ∉ [Mnemonic.lda, .txa, .tya, .tsc, .tdc, .xba, .mvn, .mvp, .adc, .sbc, .and, .ora, .eor, .pla] →
      ¬(i.mode = .acc) → t.a = s.a) ∧
    (i.mnemonic ∉ [Mnemonic.ldx, .tax, .tyx, .tsx, .mvn, .mvp, .inx, .dex, .plx, .plp, .rti, .rep, .sep, .xce] → t.x = s.x) ∧
    (i.mnemonic ∉ [Mnemonic.ldy, .tay, .txy, .mvn, .mvp, .iny, .dey, .ply, .plp, .rti, .rep, .sep, .xce] → t.y = s.y) ∧
    (i.mnemonic ∉ [Mnemonic.txs, .tcs, .pha, .phx, .phy, .php, .phb, .phk, .phd, .pea, .pei, .per, .pla, .plx, .ply, .plp,
      .plb, .pld, .jsr, .jsl, .rts, .rtl, .rti, .brk, .cop, .xce] → t.sp = s.sp) ∧
    (i.mnemonic ∉ [Mnemonic.tcd, .pld] → t.d = s.d) ∧
    (i.mnemonic ∉ [Mnemonic.plb, .mvn, .mvp] → t.dbr = s.dbr) ∧
    (i.mnemonic ∉ [Mnemonic.jml, .jsl, .rtl, .rti, .brk, .cop] → t.k = s.k) ∧
    (i.mnemonic ≠ .xce → t.e = s.e) ∧
    (i.mnemonic ≠ .wai → t.waiting = s.waiting) ∧ (i.mnemonic ≠ .stp → t.stopped = s.stopped) ∧
    t.pending = s.pending ∧ t.vt = s.vt ∧ t.opAddr = s.opAddr ∧ t.draws = s.draws

/-- Which instructions write which flag: the "written by" column of R34. -/
def Obligations.FlagsWrittenOnlyByTheirInstructions : Prop :=
  ∀ (i : Instr) (s t : State), exec i s = .next t →
    (i.mnemonic ∉ [Mnemonic.lda, .ldx, .ldy, .adc, .sbc, .and, .ora, .eor, .cmp, .cpx, .cpy, .inc, .dec, .inx, .iny, .dex, .dey,
      .asl, .lsr, .rol, .ror, .bit, .tax, .tay, .txa, .tya, .tsx, .txy, .tyx, .tcd, .tdc, .tsc, .xba, .pla, .plx, .ply, .plb,
      .pld, .plp, .rti, .rep, .sep] ∨ (i.mnemonic = .bit ∧ i.mode = .immM) → t.p.n = s.p.n) ∧
    (i.mnemonic ∉ [Mnemonic.adc, .sbc, .bit, .clv, .plp, .rti, .rep, .sep] ∨ (i.mnemonic = .bit ∧ i.mode = .immM) →
      t.p.v = s.p.v) ∧
    (i.mnemonic ∉ [Mnemonic.rep, .sep, .plp, .rti, .xce] → t.p.m = s.p.m ∧ t.p.x = s.p.x) ∧
    (i.mnemonic ∉ [Mnemonic.cld, .sed, .plp, .rti, .rep, .sep, .brk, .cop] → t.p.d = s.p.d) ∧
    (i.mnemonic ∉ [Mnemonic.cli, .sei, .plp, .rti, .rep, .sep, .brk, .cop] → t.p.i = s.p.i) ∧
    (i.mnemonic ∉ [Mnemonic.lda, .ldx, .ldy, .adc, .sbc, .and, .ora, .eor, .cmp, .cpx, .cpy, .inc, .dec, .inx, .iny, .dex, .dey,
      .asl, .lsr, .rol, .ror, .bit, .tax, .tay, .txa, .tya, .tsx, .txy, .tyx, .tcd, .tdc, .tsc, .xba, .pla, .plx, .ply, .plb,
      .pld, .plp, .rti, .rep, .sep, .tsb, .trb] → t.p.z = s.p.z) ∧
    (i.mnemonic ∉ [Mnemonic.adc, .sbc, .cmp, .cpx, .cpy, .asl, .lsr, .rol, .ror, .clc, .sec, .xce, .plp, .rti, .rep, .sep] →
      t.p.c = s.p.c)

/-- An instruction form that does not store leaves every byte of memory as it was: WRAM, the register cells, and the cartridge's
cells. The cartridge part is the model's choice (log 5): it is about the model's cell list, where a device cell compares by its tag
alone, and says nothing of the inner state of the cartridge's logic, which a read may change (R91). -/
def Obligations.NonStoringInstructionsKeepMemory : Prop :=
  ∀ (i : Instr) (s t : State), storesMemory i = false → exec i s = .next t →
    t.wram = s.wram ∧ t.cells = s.cells ∧ t.cart.cells = s.cart.cells ∧ ∀ a, t.stored a = s.stored a

/-- An instruction that stores leaves every byte alone but those at the address its mode computes; where the mode's own pointer
read raises, all of memory. No stored byte is at the DMA-enable register here. That other cartridge bytes stay is the model's choice
(log 5), since R91 leaves the effects of a write to Cart: it is about the model's cell list, where a device cell compares by its tag
alone, and says nothing of the inner state of the cartridge's logic. -/
def Obligations.StoresReachTheirBytesOnly : Prop :=
  ∀ (o : Byte) (a16 : Word) (a24 : Addr) (s t : State),
    let reaches (f : Form MemMode) (w : Width) : Prop := exec f.instr s = .next t →
      (∀ ea s1, getAddress f.operand s = .ok ea s1 → awayFromDma ea w.bytes →
        ∀ b, (∀ k < w.bytes, sameByte (ea.byteAddr k) b = false) → t.stored b = s.stored b) ∧
      (∀ e s1, getAddress f.operand s = .raise e s1 → ∀ b, t.stored b = s.stored b)
    (∀ f ∈ staMemForms o a16 a24 ++ stzMemForms o a16 ++ incMemForms o a16 ++ decMemForms o a16 ++ aslMemForms o a16 ++
      lsrMemForms o a16 ++ rolMemForms o a16 ++ rorMemForms o a16 ++ tsbMemForms o a16 ++ trbMemForms o a16,
      reaches f s.wM) ∧
    (∀ f ∈ stxMemForms o a16 ++ styMemForms o a16, reaches f s.wX)

/-- An instruction that pushes leaves every byte alone but the stack bytes it pushes, and a block move every byte but its
destination bytes. No stored byte is at the DMA-enable register here. That other cartridge bytes stay is the model's choice (log 5),
since R91 leaves the effects of a write to Cart: it is about the model's cell list, where a device cell compares by its tag alone, and
says nothing of the inner state of the cartridge's logic. -/
def Obligations.PushesAndMovesReachTheirBytesOnly : Prop :=
  ∀ (a16 : Word) (a24 : Addr) (dbk sbk : Byte) (s t : State),
    (∀ p ∈ pushers s a16 a24 dbk, exec p.1 s = .next t → (∀ k < p.2, decodeAddr (pushAddr s k) ≠ .reg 0x420B) →
      ∀ b, (∀ k < p.2, sameByte (pushAddr s k) b = false) → t.stored b = s.stored b) ∧
    (∀ p ∈ [(Instr.mvn dbk sbk, (1 : Word)), (.mvp dbk sbk, 0xFFFF)], exec p.1 s = .next t →
      (∀ k ≤ s.a.toNat, decodeAddr (moveTarget p.2 dbk s k) ≠ .reg 0x420B) →
      ∀ b, (∀ k ≤ s.a.toNat, sameByte (moveTarget p.2 dbk s k) b = false) → t.stored b = s.stored b)

/-- Whole-machine rules over every step (R31, R38, R39, R413, R430): the request slot and the wait flag are cleared only by a
dispatch, the stop flag only by a RESET dispatch; a step that dispatches anything else keeps E, D, DBR and the widths; a step
sets no request; and no step changes the vector table. -/
def Obligations.OnlyDispatchEndsWaitsAndRequests : Prop :=
  ∀ s t : State, step s = .next t →
    (t.pending ≠ s.pending → t.pending = none ∧ ∃ k, s.pending = some k ∧ nextAction s = .dispatch k) ∧
    (s.waiting = true → t.waiting = false → ∃ k, nextAction s = .dispatch k) ∧
    (s.stopped = true → t.stopped = false → nextAction s = .dispatch .reset) ∧
    (∀ k, nextAction s = .dispatch k → k ≠ .reset →
      t.e = s.e ∧ t.d = s.d ∧ t.dbr = s.dbr ∧ t.p.m = s.p.m ∧ t.p.x = s.p.x ∧ t.a = s.a ∧ t.x = s.x ∧ t.y = s.y) ∧
    t.vt = s.vt
end

