-- ==== Sys2Proof/Laws/Bits.lean ====
section
/-! SUPPORT. The laws of byte and bank fields, of truncation to a width, and of the byte view of P. -/

namespace Sys2Proof

theorem mkWord_toNat (hi lo : Byte) : (mkWord hi lo).toNat = hi.toNat * 256 + lo.toNat := by
  have h := BitVec.toNat_append hi lo
  rw [← Nat.shiftLeft_add_eq_or_of_lt lo.isLt, Nat.shiftLeft_eq] at h
  simpa [mkWord] using h
theorem mkAddr_toNat (b : Byte) (off : Word) : (mkAddr b off).toNat = b.toNat * 65536 + off.toNat := by
  have h := BitVec.toNat_append b off
  rw [← Nat.shiftLeft_add_eq_or_of_lt off.isLt, Nat.shiftLeft_eq] at h
  simpa [mkAddr] using h
theorem loByte_toNat (v : Word) : (loByte v).toNat = v.toNat % 256 := by simp [loByte]
theorem hiByte_toNat (v : Word) : (hiByte v).toNat = v.toNat / 256 := by
  have := v.isLt
  simp [hiByte, Nat.shiftRight_eq_div_pow]; omega
theorem bankOf_toNat (a : Addr) : (bankOf a).toNat = a.toNat / 65536 := by
  have := a.isLt
  simp [bankOf, Nat.shiftRight_eq_div_pow]; omega
theorem offOf_toNat (a : Addr) : (offOf a).toNat = a.toNat % 65536 := by simp [offOf]
@[simp] theorem loByte_mkWord (hi lo : Byte) : loByte (mkWord hi lo) = lo := by
  apply BitVec.eq_of_toNat_eq; rw [loByte_toNat, mkWord_toNat]; have := lo.isLt; omega
@[simp] theorem hiByte_mkWord (hi lo : Byte) : hiByte (mkWord hi lo) = hi := by
  apply BitVec.eq_of_toNat_eq; rw [hiByte_toNat, mkWord_toNat]; have := lo.isLt; omega
@[simp] theorem mkWord_hiByte_loByte (v : Word) : mkWord (hiByte v) (loByte v) = v := by
  apply BitVec.eq_of_toNat_eq; rw [mkWord_toNat, hiByte_toNat, loByte_toNat]; omega
@[simp] theorem bankOf_mkAddr (b : Byte) (off : Word) : bankOf (mkAddr b off) = b := by
  apply BitVec.eq_of_toNat_eq; rw [bankOf_toNat, mkAddr_toNat]; have := off.isLt; omega
@[simp] theorem offOf_mkAddr (b : Byte) (off : Word) : offOf (mkAddr b off) = off := by
  apply BitVec.eq_of_toNat_eq; rw [offOf_toNat, mkAddr_toNat]; have := off.isLt; omega
@[simp] theorem mkAddr_bankOf_offOf (a : Addr) : mkAddr (bankOf a) (offOf a) = a := by
  apply BitVec.eq_of_toNat_eq; rw [mkAddr_toNat, bankOf_toNat, offOf_toNat]; omega

@[simp] theorem loByte_zext8 (b : Byte) : loByte (zext8 b) = b := by
  simp [loByte, zext8]

@[simp] theorem hiByte_zext8 (b : Byte) : hiByte (zext8 b) = 0 := by
  apply BitVec.eq_of_toNat_eq
  have := b.isLt
  rw [hiByte_toNat]; simp [zext8]; omega

theorem zext8_toNat (b : Byte) : (zext8 b).toNat = b.toNat := by
  have := b.isLt
  simp [zext8]; omega

theorem zext8_eq_mkWord (b : Byte) : zext8 b = mkWord 0 b := by
  rw [← mkWord_hiByte_loByte (zext8 b)]; simp

theorem zext8_loByte_of_hiByte (v : Word) (h : hiByte v = 0) : zext8 (loByte v) = v := by
  rw [zext8_eq_mkWord, ← h, mkWord_hiByte_loByte]

@[simp] theorem trunc_w16 (v : Word) : trunc .w16 v = v := rfl

@[simp] theorem trunc_trunc (w : Width) (v : Word) : trunc w (trunc w v) = trunc w v := by
  cases w <;> simp [trunc]

@[simp] theorem loByte_trunc (w : Width) (v : Word) : loByte (trunc w v) = loByte v := by
  cases w <;> simp [trunc]

@[simp] theorem hiByte_trunc_w8 (v : Word) : hiByte (trunc .w8 v) = 0 := by
  simp [trunc]

end Sys2Proof

namespace Sys2Proof.Machine

@[simp] theorem Flags.ofByte_toByte (p : Flags) : Flags.ofByte p.toByte = p := by
  obtain ⟨n, v, m, x, d, i, z, c⟩ := p
  cases n <;> cases v <;> cases m <;> cases x <;> cases d <;> cases i <;> cases z <;> cases c <;> rfl

theorem Flags.toByte_ofByte (b : Byte) : (Flags.ofByte b).toByte = b := by
  revert b; decide

end Sys2Proof.Machine
end

