-- ==== Sys2Proof/Laws/Memory.lean ====
section
/-! SUPPORT. The laws of byte storage: read after write, and the canonical form that every write keeps. -/

namespace Sys2Proof.Machine

variable {β : Type} [DecidableEq β] (d : β)

/-- Raising the lower bound only weakens the canonical form. -/
theorem sparseWfFrom_mono {lo lo' : Nat} (h : lo' ≤ lo) :
    ∀ {m : List (Nat × β)}, sparseWfFrom d lo m = true → sparseWfFrom d lo' m = true
  | [], _ => rfl
  | (k, v) :: rest, hm => by
    simp only [sparseWfFrom, Bool.and_eq_true, decide_eq_true_eq] at hm ⊢
    exact ⟨⟨by omega, hm.1.2⟩, hm.2⟩

/-- Below its lower bound a canonical list holds nothing. -/
theorem sparseRead_below {lo a : Nat} (h : a < lo) :
    ∀ {m : List (Nat × β)}, sparseWfFrom d lo m = true → sparseRead d m a = d
  | [], _ => rfl
  | (k, v) :: rest, hm => by
    simp only [sparseWfFrom, Bool.and_eq_true, decide_eq_true_eq] at hm
    have hk : k ≠ a := by omega
    simp only [sparseRead, hk, if_false]
    exact sparseRead_below (by omega) hm.2

/-- A read after a write to the same address gives the value written. -/
theorem sparseRead_write_same {a : Nat} {v : β} :
    ∀ {lo : Nat} {m : List (Nat × β)}, sparseWfFrom d lo m = true → sparseRead d (sparseWrite d m a v) a = v
  | _, [], _ => by
    by_cases hv : v = d <;> simp [sparseWrite, sparseRead, hv]
  | lo, (k, w) :: rest, hm => by
    simp only [sparseWfFrom, Bool.and_eq_true, decide_eq_true_eq] at hm
    by_cases hak : a < k
    · by_cases hv : v = d
      · have hne : k ≠ a := by omega
        simp only [sparseWrite, hak, if_true, hv, sparseRead, hne, if_false]
        exact sparseRead_below d (by omega) hm.2
      · simp [sparseWrite, hak, hv, sparseRead]
    · by_cases hk : a = k
      · subst hk
        by_cases hv : v = d
        · simp only [sparseWrite, hak, if_false, hv, if_true]
          exact sparseRead_below d (Nat.lt_succ_self _) hm.2
        · simp [sparseWrite, hv, sparseRead]
      · have hne : k ≠ a := fun e => hk e.symm
        simp only [sparseWrite, hak, hk, if_false, sparseRead, hne]
        exact sparseRead_write_same hm.2

/-- A write leaves every other address alone. -/
theorem sparseRead_write_other {a b : Nat} {v : β} (hab : b ≠ a) :
    ∀ (m : List (Nat × β)), sparseRead d (sparseWrite d m a v) b = sparseRead d m b
  | [] => by
    by_cases hv : v = d <;> simp [sparseWrite, sparseRead, hv, hab.symm]
  | (k, w) :: rest => by
    by_cases hak : a < k
    · by_cases hv : v = d <;> simp [sparseWrite, hak, hv, sparseRead, hab.symm]
    · by_cases hk : a = k
      · subst hk
        by_cases hv : v = d <;> simp [sparseWrite, hv, sparseRead, hab.symm]
      · by_cases hkb : k = b
        · simp only [sparseWrite, hak, hk, if_false]
          simp only [sparseRead, hkb, if_true]
        · simp only [sparseWrite, hak, hk, if_false, sparseRead, hkb]
          exact sparseRead_write_other hab rest

/-- A write keeps the canonical form. -/
theorem sparseWfFrom_write {a : Nat} {v : β} :
    ∀ {lo : Nat} {m : List (Nat × β)}, lo ≤ a → sparseWfFrom d lo m = true → sparseWfFrom d lo (sparseWrite d m a v) = true
  | lo, [], h, _ => by
    by_cases hv : v = d <;> simp [sparseWrite, sparseWfFrom, hv, h]
  | lo, (k, w) :: rest, h, hm => by
    have hm' := hm
    simp only [sparseWfFrom, Bool.and_eq_true, decide_eq_true_eq] at hm
    by_cases hak : a < k
    · by_cases hv : v = d
      · simpa [sparseWrite, hak, hv] using hm'
      · simp only [sparseWrite, hak, if_true, hv, if_false, sparseWfFrom, Bool.and_eq_true, decide_eq_true_eq]
        exact ⟨⟨h, hv⟩, ⟨⟨by omega, hm.1.2⟩, hm.2⟩⟩
    · by_cases hk : a = k
      · subst hk
        by_cases hv : v = d
        · simp only [sparseWrite, hak, hv, if_true, if_false]
          exact sparseWfFrom_mono d (by omega) hm.2
        · simp only [sparseWrite, hak, hv, if_true, if_false, sparseWfFrom, Bool.and_eq_true, decide_eq_true_eq]
          exact ⟨⟨h, hv⟩, hm.2⟩
      · simp only [sparseWrite, hak, hk, if_false, sparseWfFrom, Bool.and_eq_true, decide_eq_true_eq]
        exact ⟨hm.1, sparseWfFrom_write (by omega) hm.2⟩

/-- A write lists no address but its own and those listed before. -/
theorem keysIn_write {ok : Nat → Bool} {a : Nat} {v : β} (ha : ok a = true) :
    ∀ {m : List (Nat × β)}, keysIn ok m = true → keysIn ok (sparseWrite d m a v) = true
  | [], _ => by
    by_cases hv : v = d <;> simp [sparseWrite, keysIn, hv, ha]
  | (k, w) :: rest, hm => by
    simp only [keysIn, List.all_cons, Bool.and_eq_true] at hm
    by_cases hak : a < k
    · by_cases hv : v = d <;> simp [sparseWrite, hak, hv, keysIn, ha, hm]
    · by_cases hk : a = k
      · by_cases hv : v = d <;> simp [sparseWrite, hk, hv, keysIn, hm]
      · simp only [sparseWrite, hak, hk, if_false, keysIn, List.all_cons, Bool.and_eq_true]
        exact ⟨hm.1, keysIn_write ha hm.2⟩

/-! ### Byte memories -/

theorem Memory.read_write_same (m : Memory) (a : Nat) (v : Byte) (h : m.wf = true) : (m.write a v).read a = v :=
  sparseRead_write_same _ h

theorem Memory.read_write_other (m : Memory) (a b : Nat) (v : Byte) (h : b ≠ a) : (m.write a v).read b = m.read b :=
  sparseRead_write_other _ h m

theorem Memory.wf_write (m : Memory) (a : Nat) (v : Byte) (h : m.wf = true) : (m.write a v).wf = true :=
  sparseWfFrom_write _ (Nat.zero_le a) h

theorem Memory.keysIn_write {ok : Nat → Bool} (m : Memory) (a : Nat) (v : Byte) (ha : ok a = true)
    (h : keysIn ok m = true) : keysIn ok (m.write a v) = true :=
  Sys2Proof.Machine.keysIn_write _ ha h

end Sys2Proof.Machine
end

