-- ==== Sys2Proof/Laws/State.lean ====
section
/-! SUPPORT. What each update of the state leaves unchanged, field by field, and what each changes. -/

namespace Sys2Proof.Machine

variable (s : State)

/-! ### setA -/

@[simp] theorem State.setA_x (v : Word) : (s.setA v).x = s.x := rfl
@[simp] theorem State.setA_y (v : Word) : (s.setA v).y = s.y := rfl
@[simp] theorem State.setA_sp (v : Word) : (s.setA v).sp = s.sp := rfl
@[simp] theorem State.setA_d (v : Word) : (s.setA v).d = s.d := rfl
@[simp] theorem State.setA_dbr (v : Word) : (s.setA v).dbr = s.dbr := rfl
@[simp] theorem State.setA_k (v : Word) : (s.setA v).k = s.k := rfl
@[simp] theorem State.setA_pc (v : Word) : (s.setA v).pc = s.pc := rfl
@[simp] theorem State.setA_p (v : Word) : (s.setA v).p = s.p := rfl
@[simp] theorem State.setA_e (v : Word) : (s.setA v).e = s.e := rfl
@[simp] theorem State.setA_mdr (v : Word) : (s.setA v).mdr = s.mdr := rfl
@[simp] theorem State.setA_pending (v : Word) : (s.setA v).pending = s.pending := rfl
@[simp] theorem State.setA_waiting (v : Word) : (s.setA v).waiting = s.waiting := rfl
@[simp] theorem State.setA_stopped (v : Word) : (s.setA v).stopped = s.stopped := rfl
@[simp] theorem State.setA_fault (v : Word) : (s.setA v).fault = s.fault := rfl
@[simp] theorem State.setA_wram (v : Word) : (s.setA v).wram = s.wram := rfl
@[simp] theorem State.setA_cells (v : Word) : (s.setA v).cells = s.cells := rfl
@[simp] theorem State.setA_cart (v : Word) : (s.setA v).cart = s.cart := rfl
@[simp] theorem State.setA_vt (v : Word) : (s.setA v).vt = s.vt := rfl
@[simp] theorem State.setA_opAddr (v : Word) : (s.setA v).opAddr = s.opAddr := rfl
@[simp] theorem State.setA_draws (v : Word) : (s.setA v).draws = s.draws := rfl
@[simp] theorem State.setA_wM (v : Word) : (s.setA v).wM = s.wM := rfl
@[simp] theorem State.setA_wX (v : Word) : (s.setA v).wX = s.wX := rfl

/-! ### setX -/

@[simp] theorem State.setX_a (v : Word) : (s.setX v).a = s.a := rfl
@[simp] theorem State.setX_y (v : Word) : (s.setX v).y = s.y := rfl
@[simp] theorem State.setX_sp (v : Word) : (s.setX v).sp = s.sp := rfl
@[simp] theorem State.setX_d (v : Word) : (s.setX v).d = s.d := rfl
@[simp] theorem State.setX_dbr (v : Word) : (s.setX v).dbr = s.dbr := rfl
@[simp] theorem State.setX_k (v : Word) : (s.setX v).k = s.k := rfl
@[simp] theorem State.setX_pc (v : Word) : (s.setX v).pc = s.pc := rfl
@[simp] theorem State.setX_p (v : Word) : (s.setX v).p = s.p := rfl
@[simp] theorem State.setX_e (v : Word) : (s.setX v).e = s.e := rfl
@[simp] theorem State.setX_mdr (v : Word) : (s.setX v).mdr = s.mdr := rfl
@[simp] theorem State.setX_pending (v : Word) : (s.setX v).pending = s.pending := rfl
@[simp] theorem State.setX_waiting (v : Word) : (s.setX v).waiting = s.waiting := rfl
@[simp] theorem State.setX_stopped (v : Word) : (s.setX v).stopped = s.stopped := rfl
@[simp] theorem State.setX_fault (v : Word) : (s.setX v).fault = s.fault := rfl
@[simp] theorem State.setX_wram (v : Word) : (s.setX v).wram = s.wram := rfl
@[simp] theorem State.setX_cells (v : Word) : (s.setX v).cells = s.cells := rfl
@[simp] theorem State.setX_cart (v : Word) : (s.setX v).cart = s.cart := rfl
@[simp] theorem State.setX_vt (v : Word) : (s.setX v).vt = s.vt := rfl
@[simp] theorem State.setX_opAddr (v : Word) : (s.setX v).opAddr = s.opAddr := rfl
@[simp] theorem State.setX_draws (v : Word) : (s.setX v).draws = s.draws := rfl
@[simp] theorem State.setX_wM (v : Word) : (s.setX v).wM = s.wM := rfl
@[simp] theorem State.setX_wX (v : Word) : (s.setX v).wX = s.wX := rfl

/-! ### setY -/

@[simp] theorem State.setY_a (v : Word) : (s.setY v).a = s.a := rfl
@[simp] theorem State.setY_x (v : Word) : (s.setY v).x = s.x := rfl
@[simp] theorem State.setY_sp (v : Word) : (s.setY v).sp = s.sp := rfl
@[simp] theorem State.setY_d (v : Word) : (s.setY v).d = s.d := rfl
@[simp] theorem State.setY_dbr (v : Word) : (s.setY v).dbr = s.dbr := rfl
@[simp] theorem State.setY_k (v : Word) : (s.setY v).k = s.k := rfl
@[simp] theorem State.setY_pc (v : Word) : (s.setY v).pc = s.pc := rfl
@[simp] theorem State.setY_p (v : Word) : (s.setY v).p = s.p := rfl
@[simp] theorem State.setY_e (v : Word) : (s.setY v).e = s.e := rfl
@[simp] theorem State.setY_mdr (v : Word) : (s.setY v).mdr = s.mdr := rfl
@[simp] theorem State.setY_pending (v : Word) : (s.setY v).pending = s.pending := rfl
@[simp] theorem State.setY_waiting (v : Word) : (s.setY v).waiting = s.waiting := rfl
@[simp] theorem State.setY_stopped (v : Word) : (s.setY v).stopped = s.stopped := rfl
@[simp] theorem State.setY_fault (v : Word) : (s.setY v).fault = s.fault := rfl
@[simp] theorem State.setY_wram (v : Word) : (s.setY v).wram = s.wram := rfl
@[simp] theorem State.setY_cells (v : Word) : (s.setY v).cells = s.cells := rfl
@[simp] theorem State.setY_cart (v : Word) : (s.setY v).cart = s.cart := rfl
@[simp] theorem State.setY_vt (v : Word) : (s.setY v).vt = s.vt := rfl
@[simp] theorem State.setY_opAddr (v : Word) : (s.setY v).opAddr = s.opAddr := rfl
@[simp] theorem State.setY_draws (v : Word) : (s.setY v).draws = s.draws := rfl
@[simp] theorem State.setY_wM (v : Word) : (s.setY v).wM = s.wM := rfl
@[simp] theorem State.setY_wX (v : Word) : (s.setY v).wX = s.wX := rfl

/-! ### setS -/

@[simp] theorem State.setS_a (v : Word) : (s.setS v).a = s.a := rfl
@[simp] theorem State.setS_x (v : Word) : (s.setS v).x = s.x := rfl
@[simp] theorem State.setS_y (v : Word) : (s.setS v).y = s.y := rfl
@[simp] theorem State.setS_d (v : Word) : (s.setS v).d = s.d := rfl
@[simp] theorem State.setS_dbr (v : Word) : (s.setS v).dbr = s.dbr := rfl
@[simp] theorem State.setS_k (v : Word) : (s.setS v).k = s.k := rfl
@[simp] theorem State.setS_pc (v : Word) : (s.setS v).pc = s.pc := rfl
@[simp] theorem State.setS_p (v : Word) : (s.setS v).p = s.p := rfl
@[simp] theorem State.setS_e (v : Word) : (s.setS v).e = s.e := rfl
@[simp] theorem State.setS_mdr (v : Word) : (s.setS v).mdr = s.mdr := rfl
@[simp] theorem State.setS_pending (v : Word) : (s.setS v).pending = s.pending := rfl
@[simp] theorem State.setS_waiting (v : Word) : (s.setS v).waiting = s.waiting := rfl
@[simp] theorem State.setS_stopped (v : Word) : (s.setS v).stopped = s.stopped := rfl
@[simp] theorem State.setS_fault (v : Word) : (s.setS v).fault = s.fault := rfl
@[simp] theorem State.setS_wram (v : Word) : (s.setS v).wram = s.wram := rfl
@[simp] theorem State.setS_cells (v : Word) : (s.setS v).cells = s.cells := rfl
@[simp] theorem State.setS_cart (v : Word) : (s.setS v).cart = s.cart := rfl
@[simp] theorem State.setS_vt (v : Word) : (s.setS v).vt = s.vt := rfl
@[simp] theorem State.setS_opAddr (v : Word) : (s.setS v).opAddr = s.opAddr := rfl
@[simp] theorem State.setS_draws (v : Word) : (s.setS v).draws = s.draws := rfl
@[simp] theorem State.setS_wM (v : Word) : (s.setS v).wM = s.wM := rfl
@[simp] theorem State.setS_wX (v : Word) : (s.setS v).wX = s.wX := rfl

/-! ### setNZ -/

@[simp] theorem State.setNZ_a (v : Word) (w : Width) : (s.setNZ v w).a = s.a := rfl
@[simp] theorem State.setNZ_x (v : Word) (w : Width) : (s.setNZ v w).x = s.x := rfl
@[simp] theorem State.setNZ_y (v : Word) (w : Width) : (s.setNZ v w).y = s.y := rfl
@[simp] theorem State.setNZ_sp (v : Word) (w : Width) : (s.setNZ v w).sp = s.sp := rfl
@[simp] theorem State.setNZ_d (v : Word) (w : Width) : (s.setNZ v w).d = s.d := rfl
@[simp] theorem State.setNZ_dbr (v : Word) (w : Width) : (s.setNZ v w).dbr = s.dbr := rfl
@[simp] theorem State.setNZ_k (v : Word) (w : Width) : (s.setNZ v w).k = s.k := rfl
@[simp] theorem State.setNZ_pc (v : Word) (w : Width) : (s.setNZ v w).pc = s.pc := rfl
@[simp] theorem State.setNZ_e (v : Word) (w : Width) : (s.setNZ v w).e = s.e := rfl
@[simp] theorem State.setNZ_mdr (v : Word) (w : Width) : (s.setNZ v w).mdr = s.mdr := rfl
@[simp] theorem State.setNZ_pending (v : Word) (w : Width) : (s.setNZ v w).pending = s.pending := rfl
@[simp] theorem State.setNZ_waiting (v : Word) (w : Width) : (s.setNZ v w).waiting = s.waiting := rfl
@[simp] theorem State.setNZ_stopped (v : Word) (w : Width) : (s.setNZ v w).stopped = s.stopped := rfl
@[simp] theorem State.setNZ_fault (v : Word) (w : Width) : (s.setNZ v w).fault = s.fault := rfl
@[simp] theorem State.setNZ_wram (v : Word) (w : Width) : (s.setNZ v w).wram = s.wram := rfl
@[simp] theorem State.setNZ_cells (v : Word) (w : Width) : (s.setNZ v w).cells = s.cells := rfl
@[simp] theorem State.setNZ_cart (v : Word) (w : Width) : (s.setNZ v w).cart = s.cart := rfl
@[simp] theorem State.setNZ_vt (v : Word) (w : Width) : (s.setNZ v w).vt = s.vt := rfl
@[simp] theorem State.setNZ_opAddr (v : Word) (w : Width) : (s.setNZ v w).opAddr = s.opAddr := rfl
@[simp] theorem State.setNZ_draws (v : Word) (w : Width) : (s.setNZ v w).draws = s.draws := rfl

/-! ### writeP -/

@[simp] theorem State.writeP_a (v : Byte) : (s.writeP v).a = s.a := rfl
@[simp] theorem State.writeP_sp (v : Byte) : (s.writeP v).sp = s.sp := rfl
@[simp] theorem State.writeP_d (v : Byte) : (s.writeP v).d = s.d := rfl
@[simp] theorem State.writeP_dbr (v : Byte) : (s.writeP v).dbr = s.dbr := rfl
@[simp] theorem State.writeP_k (v : Byte) : (s.writeP v).k = s.k := rfl
@[simp] theorem State.writeP_pc (v : Byte) : (s.writeP v).pc = s.pc := rfl
@[simp] theorem State.writeP_e (v : Byte) : (s.writeP v).e = s.e := rfl
@[simp] theorem State.writeP_mdr (v : Byte) : (s.writeP v).mdr = s.mdr := rfl
@[simp] theorem State.writeP_pending (v : Byte) : (s.writeP v).pending = s.pending := rfl
@[simp] theorem State.writeP_waiting (v : Byte) : (s.writeP v).waiting = s.waiting := rfl
@[simp] theorem State.writeP_stopped (v : Byte) : (s.writeP v).stopped = s.stopped := rfl
@[simp] theorem State.writeP_fault (v : Byte) : (s.writeP v).fault = s.fault := rfl
@[simp] theorem State.writeP_wram (v : Byte) : (s.writeP v).wram = s.wram := rfl
@[simp] theorem State.writeP_cells (v : Byte) : (s.writeP v).cells = s.cells := rfl
@[simp] theorem State.writeP_cart (v : Byte) : (s.writeP v).cart = s.cart := rfl
@[simp] theorem State.writeP_vt (v : Byte) : (s.writeP v).vt = s.vt := rfl
@[simp] theorem State.writeP_opAddr (v : Byte) : (s.writeP v).opAddr = s.opAddr := rfl
@[simp] theorem State.writeP_draws (v : Byte) : (s.writeP v).draws = s.draws := rfl

/-! ### enterEmulation -/

@[simp] theorem State.enterEmulation_a : (s.enterEmulation).a = s.a := rfl
@[simp] theorem State.enterEmulation_d : (s.enterEmulation).d = s.d := rfl
@[simp] theorem State.enterEmulation_dbr : (s.enterEmulation).dbr = s.dbr := rfl
@[simp] theorem State.enterEmulation_k : (s.enterEmulation).k = s.k := rfl
@[simp] theorem State.enterEmulation_pc : (s.enterEmulation).pc = s.pc := rfl
@[simp] theorem State.enterEmulation_mdr : (s.enterEmulation).mdr = s.mdr := rfl
@[simp] theorem State.enterEmulation_pending : (s.enterEmulation).pending = s.pending := rfl
@[simp] theorem State.enterEmulation_waiting : (s.enterEmulation).waiting = s.waiting := rfl
@[simp] theorem State.enterEmulation_stopped : (s.enterEmulation).stopped = s.stopped := rfl
@[simp] theorem State.enterEmulation_fault : (s.enterEmulation).fault = s.fault := rfl
@[simp] theorem State.enterEmulation_wram : (s.enterEmulation).wram = s.wram := rfl
@[simp] theorem State.enterEmulation_cells : (s.enterEmulation).cells = s.cells := rfl
@[simp] theorem State.enterEmulation_cart : (s.enterEmulation).cart = s.cart := rfl
@[simp] theorem State.enterEmulation_vt : (s.enterEmulation).vt = s.vt := rfl
@[simp] theorem State.enterEmulation_opAddr : (s.enterEmulation).opAddr = s.opAddr := rfl
@[simp] theorem State.enterEmulation_draws : (s.enterEmulation).draws = s.draws := rfl

/-! ### vectorTo -/

@[simp] theorem State.vectorTo_a (k : IntKind) : (s.vectorTo k).a = s.a := rfl
@[simp] theorem State.vectorTo_x (k : IntKind) : (s.vectorTo k).x = s.x := rfl
@[simp] theorem State.vectorTo_y (k : IntKind) : (s.vectorTo k).y = s.y := rfl
@[simp] theorem State.vectorTo_sp (k : IntKind) : (s.vectorTo k).sp = s.sp := rfl
@[simp] theorem State.vectorTo_d (k : IntKind) : (s.vectorTo k).d = s.d := rfl
@[simp] theorem State.vectorTo_dbr (k : IntKind) : (s.vectorTo k).dbr = s.dbr := rfl
@[simp] theorem State.vectorTo_e (k : IntKind) : (s.vectorTo k).e = s.e := rfl
@[simp] theorem State.vectorTo_mdr (k : IntKind) : (s.vectorTo k).mdr = s.mdr := rfl
@[simp] theorem State.vectorTo_pending (k : IntKind) : (s.vectorTo k).pending = s.pending := rfl
@[simp] theorem State.vectorTo_waiting (k : IntKind) : (s.vectorTo k).waiting = s.waiting := rfl
@[simp] theorem State.vectorTo_stopped (k : IntKind) : (s.vectorTo k).stopped = s.stopped := rfl
@[simp] theorem State.vectorTo_fault (k : IntKind) : (s.vectorTo k).fault = s.fault := rfl
@[simp] theorem State.vectorTo_wram (k : IntKind) : (s.vectorTo k).wram = s.wram := rfl
@[simp] theorem State.vectorTo_cells (k : IntKind) : (s.vectorTo k).cells = s.cells := rfl
@[simp] theorem State.vectorTo_cart (k : IntKind) : (s.vectorTo k).cart = s.cart := rfl
@[simp] theorem State.vectorTo_vt (k : IntKind) : (s.vectorTo k).vt = s.vt := rfl
@[simp] theorem State.vectorTo_opAddr (k : IntKind) : (s.vectorTo k).opAddr = s.opAddr := rfl
@[simp] theorem State.vectorTo_draws (k : IntKind) : (s.vectorTo k).draws = s.draws := rfl

/-! ### resetState -/

@[simp] theorem State.resetState_fault (dr : ResetDraw) : (s.resetState dr).fault = s.fault := rfl
@[simp] theorem State.resetState_wram (dr : ResetDraw) : (s.resetState dr).wram = s.wram := rfl
@[simp] theorem State.resetState_cells (dr : ResetDraw) : (s.resetState dr).cells = s.cells := rfl
@[simp] theorem State.resetState_cart (dr : ResetDraw) : (s.resetState dr).cart = s.cart := rfl
@[simp] theorem State.resetState_vt (dr : ResetDraw) : (s.resetState dr).vt = s.vt := rfl
@[simp] theorem State.resetState_opAddr (dr : ResetDraw) : (s.resetState dr).opAddr = s.opAddr := rfl
@[simp] theorem State.resetState_draws (dr : ResetDraw) : (s.resetState dr).draws = s.draws := rfl

/-! ### resetFree -/

@[simp] theorem State.resetFree_fault : (s.resetFree).fault = s.fault := rfl
@[simp] theorem State.resetFree_wram : (s.resetFree).wram = s.wram := rfl
@[simp] theorem State.resetFree_cells : (s.resetFree).cells = s.cells := rfl
@[simp] theorem State.resetFree_cart : (s.resetFree).cart = s.cart := rfl
@[simp] theorem State.resetFree_vt : (s.resetFree).vt = s.vt := rfl
@[simp] theorem State.resetFree_opAddr : (s.resetFree).opAddr = s.opAddr := rfl

/-! ### noteOpAddr -/

@[simp] theorem State.noteOpAddr_a : (s.noteOpAddr).a = s.a := rfl
@[simp] theorem State.noteOpAddr_x : (s.noteOpAddr).x = s.x := rfl
@[simp] theorem State.noteOpAddr_y : (s.noteOpAddr).y = s.y := rfl
@[simp] theorem State.noteOpAddr_sp : (s.noteOpAddr).sp = s.sp := rfl
@[simp] theorem State.noteOpAddr_d : (s.noteOpAddr).d = s.d := rfl
@[simp] theorem State.noteOpAddr_dbr : (s.noteOpAddr).dbr = s.dbr := rfl
@[simp] theorem State.noteOpAddr_k : (s.noteOpAddr).k = s.k := rfl
@[simp] theorem State.noteOpAddr_pc : (s.noteOpAddr).pc = s.pc := rfl
@[simp] theorem State.noteOpAddr_p : (s.noteOpAddr).p = s.p := rfl
@[simp] theorem State.noteOpAddr_e : (s.noteOpAddr).e = s.e := rfl
@[simp] theorem State.noteOpAddr_mdr : (s.noteOpAddr).mdr = s.mdr := rfl
@[simp] theorem State.noteOpAddr_pending : (s.noteOpAddr).pending = s.pending := rfl
@[simp] theorem State.noteOpAddr_waiting : (s.noteOpAddr).waiting = s.waiting := rfl
@[simp] theorem State.noteOpAddr_stopped : (s.noteOpAddr).stopped = s.stopped := rfl
@[simp] theorem State.noteOpAddr_fault : (s.noteOpAddr).fault = s.fault := rfl
@[simp] theorem State.noteOpAddr_wram : (s.noteOpAddr).wram = s.wram := rfl
@[simp] theorem State.noteOpAddr_cells : (s.noteOpAddr).cells = s.cells := rfl
@[simp] theorem State.noteOpAddr_cart : (s.noteOpAddr).cart = s.cart := rfl
@[simp] theorem State.noteOpAddr_vt : (s.noteOpAddr).vt = s.vt := rfl
@[simp] theorem State.noteOpAddr_draws : (s.noteOpAddr).draws = s.draws := rfl
@[simp] theorem State.noteOpAddr_wM : (s.noteOpAddr).wM = s.wM := rfl
@[simp] theorem State.noteOpAddr_wX : (s.noteOpAddr).wX = s.wX := rfl

/-! ### setRequest -/

@[simp] theorem State.setRequest_a (k : IntKind) : (s.setRequest k).a = s.a := rfl
@[simp] theorem State.setRequest_x (k : IntKind) : (s.setRequest k).x = s.x := rfl
@[simp] theorem State.setRequest_y (k : IntKind) : (s.setRequest k).y = s.y := rfl
@[simp] theorem State.setRequest_sp (k : IntKind) : (s.setRequest k).sp = s.sp := rfl
@[simp] theorem State.setRequest_d (k : IntKind) : (s.setRequest k).d = s.d := rfl
@[simp] theorem State.setRequest_dbr (k : IntKind) : (s.setRequest k).dbr = s.dbr := rfl
@[simp] theorem State.setRequest_k (k : IntKind) : (s.setRequest k).k = s.k := rfl
@[simp] theorem State.setRequest_pc (k : IntKind) : (s.setRequest k).pc = s.pc := rfl
@[simp] theorem State.setRequest_p (k : IntKind) : (s.setRequest k).p = s.p := rfl
@[simp] theorem State.setRequest_e (k : IntKind) : (s.setRequest k).e = s.e := rfl
@[simp] theorem State.setRequest_mdr (k : IntKind) : (s.setRequest k).mdr = s.mdr := rfl
@[simp] theorem State.setRequest_waiting (k : IntKind) : (s.setRequest k).waiting = s.waiting := rfl
@[simp] theorem State.setRequest_stopped (k : IntKind) : (s.setRequest k).stopped = s.stopped := rfl
@[simp] theorem State.setRequest_fault (k : IntKind) : (s.setRequest k).fault = s.fault := rfl
@[simp] theorem State.setRequest_wram (k : IntKind) : (s.setRequest k).wram = s.wram := rfl
@[simp] theorem State.setRequest_cells (k : IntKind) : (s.setRequest k).cells = s.cells := rfl
@[simp] theorem State.setRequest_cart (k : IntKind) : (s.setRequest k).cart = s.cart := rfl
@[simp] theorem State.setRequest_vt (k : IntKind) : (s.setRequest k).vt = s.vt := rfl
@[simp] theorem State.setRequest_opAddr (k : IntKind) : (s.setRequest k).opAddr = s.opAddr := rfl
@[simp] theorem State.setRequest_draws (k : IntKind) : (s.setRequest k).draws = s.draws := rfl
@[simp] theorem State.setRequest_wM (k : IntKind) : (s.setRequest k).wM = s.wM := rfl
@[simp] theorem State.setRequest_wX (k : IntKind) : (s.setRequest k).wX = s.wX := rfl

/-! ### hostReset -/

@[simp] theorem State.hostReset_fault : (s.hostReset).fault = s.fault := rfl
@[simp] theorem State.hostReset_wram : (s.hostReset).wram = s.wram := rfl
@[simp] theorem State.hostReset_cells : (s.hostReset).cells = s.cells := rfl
@[simp] theorem State.hostReset_cart : (s.hostReset).cart = s.cart := rfl
@[simp] theorem State.hostReset_vt : (s.hostReset).vt = s.vt := rfl
@[simp] theorem State.hostReset_opAddr : (s.hostReset).opAddr = s.opAddr := rfl

/-! ### writeCell -/

@[simp] theorem State.writeCell_a (o : Nat) (v : Byte) : (s.writeCell o v).a = s.a := by unfold State.writeCell; split <;> rfl
@[simp] theorem State.writeCell_x (o : Nat) (v : Byte) : (s.writeCell o v).x = s.x := by unfold State.writeCell; split <;> rfl
@[simp] theorem State.writeCell_y (o : Nat) (v : Byte) : (s.writeCell o v).y = s.y := by unfold State.writeCell; split <;> rfl
@[simp] theorem State.writeCell_sp (o : Nat) (v : Byte) : (s.writeCell o v).sp = s.sp := by unfold State.writeCell; split <;> rfl
@[simp] theorem State.writeCell_d (o : Nat) (v : Byte) : (s.writeCell o v).d = s.d := by unfold State.writeCell; split <;> rfl
@[simp] theorem State.writeCell_dbr (o : Nat) (v : Byte) : (s.writeCell o v).dbr = s.dbr := by unfold State.writeCell; split <;> rfl
@[simp] theorem State.writeCell_k (o : Nat) (v : Byte) : (s.writeCell o v).k = s.k := by unfold State.writeCell; split <;> rfl
@[simp] theorem State.writeCell_pc (o : Nat) (v : Byte) : (s.writeCell o v).pc = s.pc := by unfold State.writeCell; split <;> rfl
@[simp] theorem State.writeCell_p (o : Nat) (v : Byte) : (s.writeCell o v).p = s.p := by unfold State.writeCell; split <;> rfl
@[simp] theorem State.writeCell_e (o : Nat) (v : Byte) : (s.writeCell o v).e = s.e := by unfold State.writeCell; split <;> rfl
@[simp] theorem State.writeCell_mdr (o : Nat) (v : Byte) : (s.writeCell o v).mdr = s.mdr := by unfold State.writeCell; split <;> rfl
@[simp] theorem State.writeCell_pending (o : Nat) (v : Byte) : (s.writeCell o v).pending = s.pending := by unfold State.writeCell; split <;> rfl
@[simp] theorem State.writeCell_waiting (o : Nat) (v : Byte) : (s.writeCell o v).waiting = s.waiting := by unfold State.writeCell; split <;> rfl
@[simp] theorem State.writeCell_stopped (o : Nat) (v : Byte) : (s.writeCell o v).stopped = s.stopped := by unfold State.writeCell; split <;> rfl
@[simp] theorem State.writeCell_fault (o : Nat) (v : Byte) : (s.writeCell o v).fault = s.fault := by unfold State.writeCell; split <;> rfl
@[simp] theorem State.writeCell_wram (o : Nat) (v : Byte) : (s.writeCell o v).wram = s.wram := by unfold State.writeCell; split <;> rfl
@[simp] theorem State.writeCell_cart (o : Nat) (v : Byte) : (s.writeCell o v).cart = s.cart := by unfold State.writeCell; split <;> rfl
@[simp] theorem State.writeCell_vt (o : Nat) (v : Byte) : (s.writeCell o v).vt = s.vt := by unfold State.writeCell; split <;> rfl
@[simp] theorem State.writeCell_opAddr (o : Nat) (v : Byte) : (s.writeCell o v).opAddr = s.opAddr := by unfold State.writeCell; split <;> rfl
@[simp] theorem State.writeCell_draws (o : Nat) (v : Byte) : (s.writeCell o v).draws = s.draws := by unfold State.writeCell; split <;> rfl
@[simp] theorem State.writeCell_wM (o : Nat) (v : Byte) : (s.writeCell o v).wM = s.wM := by unfold State.writeCell; split <;> rfl
@[simp] theorem State.writeCell_wX (o : Nat) (v : Byte) : (s.writeCell o v).wX = s.wX := by unfold State.writeCell; split <;> rfl

/-! ### transferToX -/

@[simp] theorem State.transferToX_a (v : Word) : (s.transferToX v).a = s.a := rfl
@[simp] theorem State.transferToX_y (v : Word) : (s.transferToX v).y = s.y := rfl
@[simp] theorem State.transferToX_sp (v : Word) : (s.transferToX v).sp = s.sp := rfl
@[simp] theorem State.transferToX_d (v : Word) : (s.transferToX v).d = s.d := rfl
@[simp] theorem State.transferToX_dbr (v : Word) : (s.transferToX v).dbr = s.dbr := rfl
@[simp] theorem State.transferToX_k (v : Word) : (s.transferToX v).k = s.k := rfl
@[simp] theorem State.transferToX_pc (v : Word) : (s.transferToX v).pc = s.pc := rfl
@[simp] theorem State.transferToX_e (v : Word) : (s.transferToX v).e = s.e := rfl
@[simp] theorem State.transferToX_mdr (v : Word) : (s.transferToX v).mdr = s.mdr := rfl
@[simp] theorem State.transferToX_pending (v : Word) : (s.transferToX v).pending = s.pending := rfl
@[simp] theorem State.transferToX_waiting (v : Word) : (s.transferToX v).waiting = s.waiting := rfl
@[simp] theorem State.transferToX_stopped (v : Word) : (s.transferToX v).stopped = s.stopped := rfl
@[simp] theorem State.transferToX_fault (v : Word) : (s.transferToX v).fault = s.fault := rfl
@[simp] theorem State.transferToX_wram (v : Word) : (s.transferToX v).wram = s.wram := rfl
@[simp] theorem State.transferToX_cells (v : Word) : (s.transferToX v).cells = s.cells := rfl
@[simp] theorem State.transferToX_cart (v : Word) : (s.transferToX v).cart = s.cart := rfl
@[simp] theorem State.transferToX_vt (v : Word) : (s.transferToX v).vt = s.vt := rfl
@[simp] theorem State.transferToX_opAddr (v : Word) : (s.transferToX v).opAddr = s.opAddr := rfl
@[simp] theorem State.transferToX_draws (v : Word) : (s.transferToX v).draws = s.draws := rfl

/-! ### transferToY -/

@[simp] theorem State.transferToY_a (v : Word) : (s.transferToY v).a = s.a := rfl
@[simp] theorem State.transferToY_x (v : Word) : (s.transferToY v).x = s.x := rfl
@[simp] theorem State.transferToY_sp (v : Word) : (s.transferToY v).sp = s.sp := rfl
@[simp] theorem State.transferToY_d (v : Word) : (s.transferToY v).d = s.d := rfl
@[simp] theorem State.transferToY_dbr (v : Word) : (s.transferToY v).dbr = s.dbr := rfl
@[simp] theorem State.transferToY_k (v : Word) : (s.transferToY v).k = s.k := rfl
@[simp] theorem State.transferToY_pc (v : Word) : (s.transferToY v).pc = s.pc := rfl
@[simp] theorem State.transferToY_e (v : Word) : (s.transferToY v).e = s.e := rfl
@[simp] theorem State.transferToY_mdr (v : Word) : (s.transferToY v).mdr = s.mdr := rfl
@[simp] theorem State.transferToY_pending (v : Word) : (s.transferToY v).pending = s.pending := rfl
@[simp] theorem State.transferToY_waiting (v : Word) : (s.transferToY v).waiting = s.waiting := rfl
@[simp] theorem State.transferToY_stopped (v : Word) : (s.transferToY v).stopped = s.stopped := rfl
@[simp] theorem State.transferToY_fault (v : Word) : (s.transferToY v).fault = s.fault := rfl
@[simp] theorem State.transferToY_wram (v : Word) : (s.transferToY v).wram = s.wram := rfl
@[simp] theorem State.transferToY_cells (v : Word) : (s.transferToY v).cells = s.cells := rfl
@[simp] theorem State.transferToY_cart (v : Word) : (s.transferToY v).cart = s.cart := rfl
@[simp] theorem State.transferToY_vt (v : Word) : (s.transferToY v).vt = s.vt := rfl
@[simp] theorem State.transferToY_opAddr (v : Word) : (s.transferToY v).opAddr = s.opAddr := rfl
@[simp] theorem State.transferToY_draws (v : Word) : (s.transferToY v).draws = s.draws := rfl

/-! ### transferToA -/

@[simp] theorem State.transferToA_x (v : Word) : (s.transferToA v).x = s.x := rfl
@[simp] theorem State.transferToA_y (v : Word) : (s.transferToA v).y = s.y := rfl
@[simp] theorem State.transferToA_sp (v : Word) : (s.transferToA v).sp = s.sp := rfl
@[simp] theorem State.transferToA_d (v : Word) : (s.transferToA v).d = s.d := rfl
@[simp] theorem State.transferToA_dbr (v : Word) : (s.transferToA v).dbr = s.dbr := rfl
@[simp] theorem State.transferToA_k (v : Word) : (s.transferToA v).k = s.k := rfl
@[simp] theorem State.transferToA_pc (v : Word) : (s.transferToA v).pc = s.pc := rfl
@[simp] theorem State.transferToA_e (v : Word) : (s.transferToA v).e = s.e := rfl
@[simp] theorem State.transferToA_mdr (v : Word) : (s.transferToA v).mdr = s.mdr := rfl
@[simp] theorem State.transferToA_pending (v : Word) : (s.transferToA v).pending = s.pending := rfl
@[simp] theorem State.transferToA_waiting (v : Word) : (s.transferToA v).waiting = s.waiting := rfl
@[simp] theorem State.transferToA_stopped (v : Word) : (s.transferToA v).stopped = s.stopped := rfl
@[simp] theorem State.transferToA_fault (v : Word) : (s.transferToA v).fault = s.fault := rfl
@[simp] theorem State.transferToA_wram (v : Word) : (s.transferToA v).wram = s.wram := rfl
@[simp] theorem State.transferToA_cells (v : Word) : (s.transferToA v).cells = s.cells := rfl
@[simp] theorem State.transferToA_cart (v : Word) : (s.transferToA v).cart = s.cart := rfl
@[simp] theorem State.transferToA_vt (v : Word) : (s.transferToA v).vt = s.vt := rfl
@[simp] theorem State.transferToA_opAddr (v : Word) : (s.transferToA v).opAddr = s.opAddr := rfl
@[simp] theorem State.transferToA_draws (v : Word) : (s.transferToA v).draws = s.draws := rfl

/-! ### transferToC16 -/

@[simp] theorem State.transferToC16_x (v : Word) : (s.transferToC16 v).x = s.x := rfl
@[simp] theorem State.transferToC16_y (v : Word) : (s.transferToC16 v).y = s.y := rfl
@[simp] theorem State.transferToC16_sp (v : Word) : (s.transferToC16 v).sp = s.sp := rfl
@[simp] theorem State.transferToC16_d (v : Word) : (s.transferToC16 v).d = s.d := rfl
@[simp] theorem State.transferToC16_dbr (v : Word) : (s.transferToC16 v).dbr = s.dbr := rfl
@[simp] theorem State.transferToC16_k (v : Word) : (s.transferToC16 v).k = s.k := rfl
@[simp] theorem State.transferToC16_pc (v : Word) : (s.transferToC16 v).pc = s.pc := rfl
@[simp] theorem State.transferToC16_e (v : Word) : (s.transferToC16 v).e = s.e := rfl
@[simp] theorem State.transferToC16_mdr (v : Word) : (s.transferToC16 v).mdr = s.mdr := rfl
@[simp] theorem State.transferToC16_pending (v : Word) : (s.transferToC16 v).pending = s.pending := rfl
@[simp] theorem State.transferToC16_waiting (v : Word) : (s.transferToC16 v).waiting = s.waiting := rfl
@[simp] theorem State.transferToC16_stopped (v : Word) : (s.transferToC16 v).stopped = s.stopped := rfl
@[simp] theorem State.transferToC16_fault (v : Word) : (s.transferToC16 v).fault = s.fault := rfl
@[simp] theorem State.transferToC16_wram (v : Word) : (s.transferToC16 v).wram = s.wram := rfl
@[simp] theorem State.transferToC16_cells (v : Word) : (s.transferToC16 v).cells = s.cells := rfl
@[simp] theorem State.transferToC16_cart (v : Word) : (s.transferToC16 v).cart = s.cart := rfl
@[simp] theorem State.transferToC16_vt (v : Word) : (s.transferToC16 v).vt = s.vt := rfl
@[simp] theorem State.transferToC16_opAddr (v : Word) : (s.transferToC16 v).opAddr = s.opAddr := rfl
@[simp] theorem State.transferToC16_draws (v : Word) : (s.transferToC16 v).draws = s.draws := rfl

/-! ### setAlu -/

@[simp] theorem State.setAlu_x (r : AluResult) : (s.setAlu r).x = s.x := rfl
@[simp] theorem State.setAlu_y (r : AluResult) : (s.setAlu r).y = s.y := rfl
@[simp] theorem State.setAlu_sp (r : AluResult) : (s.setAlu r).sp = s.sp := rfl
@[simp] theorem State.setAlu_d (r : AluResult) : (s.setAlu r).d = s.d := rfl
@[simp] theorem State.setAlu_dbr (r : AluResult) : (s.setAlu r).dbr = s.dbr := rfl
@[simp] theorem State.setAlu_k (r : AluResult) : (s.setAlu r).k = s.k := rfl
@[simp] theorem State.setAlu_pc (r : AluResult) : (s.setAlu r).pc = s.pc := rfl
@[simp] theorem State.setAlu_e (r : AluResult) : (s.setAlu r).e = s.e := rfl
@[simp] theorem State.setAlu_mdr (r : AluResult) : (s.setAlu r).mdr = s.mdr := rfl
@[simp] theorem State.setAlu_pending (r : AluResult) : (s.setAlu r).pending = s.pending := rfl
@[simp] theorem State.setAlu_waiting (r : AluResult) : (s.setAlu r).waiting = s.waiting := rfl
@[simp] theorem State.setAlu_stopped (r : AluResult) : (s.setAlu r).stopped = s.stopped := rfl
@[simp] theorem State.setAlu_fault (r : AluResult) : (s.setAlu r).fault = s.fault := rfl
@[simp] theorem State.setAlu_wram (r : AluResult) : (s.setAlu r).wram = s.wram := rfl
@[simp] theorem State.setAlu_cells (r : AluResult) : (s.setAlu r).cells = s.cells := rfl
@[simp] theorem State.setAlu_cart (r : AluResult) : (s.setAlu r).cart = s.cart := rfl
@[simp] theorem State.setAlu_vt (r : AluResult) : (s.setAlu r).vt = s.vt := rfl
@[simp] theorem State.setAlu_opAddr (r : AluResult) : (s.setAlu r).opAddr = s.opAddr := rfl
@[simp] theorem State.setAlu_draws (r : AluResult) : (s.setAlu r).draws = s.draws := rfl

/-! ### stepX -/

@[simp] theorem State.stepX_a (v : Word) : (s.stepX v).a = s.a := rfl
@[simp] theorem State.stepX_y (v : Word) : (s.stepX v).y = s.y := rfl
@[simp] theorem State.stepX_sp (v : Word) : (s.stepX v).sp = s.sp := rfl
@[simp] theorem State.stepX_d (v : Word) : (s.stepX v).d = s.d := rfl
@[simp] theorem State.stepX_dbr (v : Word) : (s.stepX v).dbr = s.dbr := rfl
@[simp] theorem State.stepX_k (v : Word) : (s.stepX v).k = s.k := rfl
@[simp] theorem State.stepX_pc (v : Word) : (s.stepX v).pc = s.pc := rfl
@[simp] theorem State.stepX_e (v : Word) : (s.stepX v).e = s.e := rfl
@[simp] theorem State.stepX_mdr (v : Word) : (s.stepX v).mdr = s.mdr := rfl
@[simp] theorem State.stepX_pending (v : Word) : (s.stepX v).pending = s.pending := rfl
@[simp] theorem State.stepX_waiting (v : Word) : (s.stepX v).waiting = s.waiting := rfl
@[simp] theorem State.stepX_stopped (v : Word) : (s.stepX v).stopped = s.stopped := rfl
@[simp] theorem State.stepX_fault (v : Word) : (s.stepX v).fault = s.fault := rfl
@[simp] theorem State.stepX_wram (v : Word) : (s.stepX v).wram = s.wram := rfl
@[simp] theorem State.stepX_cells (v : Word) : (s.stepX v).cells = s.cells := rfl
@[simp] theorem State.stepX_cart (v : Word) : (s.stepX v).cart = s.cart := rfl
@[simp] theorem State.stepX_vt (v : Word) : (s.stepX v).vt = s.vt := rfl
@[simp] theorem State.stepX_opAddr (v : Word) : (s.stepX v).opAddr = s.opAddr := rfl
@[simp] theorem State.stepX_draws (v : Word) : (s.stepX v).draws = s.draws := rfl

/-! ### stepY -/

@[simp] theorem State.stepY_a (v : Word) : (s.stepY v).a = s.a := rfl
@[simp] theorem State.stepY_x (v : Word) : (s.stepY v).x = s.x := rfl
@[simp] theorem State.stepY_sp (v : Word) : (s.stepY v).sp = s.sp := rfl
@[simp] theorem State.stepY_d (v : Word) : (s.stepY v).d = s.d := rfl
@[simp] theorem State.stepY_dbr (v : Word) : (s.stepY v).dbr = s.dbr := rfl
@[simp] theorem State.stepY_k (v : Word) : (s.stepY v).k = s.k := rfl
@[simp] theorem State.stepY_pc (v : Word) : (s.stepY v).pc = s.pc := rfl
@[simp] theorem State.stepY_e (v : Word) : (s.stepY v).e = s.e := rfl
@[simp] theorem State.stepY_mdr (v : Word) : (s.stepY v).mdr = s.mdr := rfl
@[simp] theorem State.stepY_pending (v : Word) : (s.stepY v).pending = s.pending := rfl
@[simp] theorem State.stepY_waiting (v : Word) : (s.stepY v).waiting = s.waiting := rfl
@[simp] theorem State.stepY_stopped (v : Word) : (s.stepY v).stopped = s.stopped := rfl
@[simp] theorem State.stepY_fault (v : Word) : (s.stepY v).fault = s.fault := rfl
@[simp] theorem State.stepY_wram (v : Word) : (s.stepY v).wram = s.wram := rfl
@[simp] theorem State.stepY_cells (v : Word) : (s.stepY v).cells = s.cells := rfl
@[simp] theorem State.stepY_cart (v : Word) : (s.stepY v).cart = s.cart := rfl
@[simp] theorem State.stepY_vt (v : Word) : (s.stepY v).vt = s.vt := rfl
@[simp] theorem State.stepY_opAddr (v : Word) : (s.stepY v).opAddr = s.opAddr := rfl
@[simp] theorem State.stepY_draws (v : Word) : (s.stepY v).draws = s.draws := rfl

/-! ### testZ -/

@[simp] theorem State.testZ_a (v : Word) : (s.testZ v).a = s.a := rfl
@[simp] theorem State.testZ_x (v : Word) : (s.testZ v).x = s.x := rfl
@[simp] theorem State.testZ_y (v : Word) : (s.testZ v).y = s.y := rfl
@[simp] theorem State.testZ_sp (v : Word) : (s.testZ v).sp = s.sp := rfl
@[simp] theorem State.testZ_d (v : Word) : (s.testZ v).d = s.d := rfl
@[simp] theorem State.testZ_dbr (v : Word) : (s.testZ v).dbr = s.dbr := rfl
@[simp] theorem State.testZ_k (v : Word) : (s.testZ v).k = s.k := rfl
@[simp] theorem State.testZ_pc (v : Word) : (s.testZ v).pc = s.pc := rfl
@[simp] theorem State.testZ_e (v : Word) : (s.testZ v).e = s.e := rfl
@[simp] theorem State.testZ_mdr (v : Word) : (s.testZ v).mdr = s.mdr := rfl
@[simp] theorem State.testZ_pending (v : Word) : (s.testZ v).pending = s.pending := rfl
@[simp] theorem State.testZ_waiting (v : Word) : (s.testZ v).waiting = s.waiting := rfl
@[simp] theorem State.testZ_stopped (v : Word) : (s.testZ v).stopped = s.stopped := rfl
@[simp] theorem State.testZ_fault (v : Word) : (s.testZ v).fault = s.fault := rfl
@[simp] theorem State.testZ_wram (v : Word) : (s.testZ v).wram = s.wram := rfl
@[simp] theorem State.testZ_cells (v : Word) : (s.testZ v).cells = s.cells := rfl
@[simp] theorem State.testZ_cart (v : Word) : (s.testZ v).cart = s.cart := rfl
@[simp] theorem State.testZ_vt (v : Word) : (s.testZ v).vt = s.vt := rfl
@[simp] theorem State.testZ_opAddr (v : Word) : (s.testZ v).opAddr = s.opAddr := rfl
@[simp] theorem State.testZ_draws (v : Word) : (s.testZ v).draws = s.draws := rfl

/-! ### jump -/

@[simp] theorem State.jump_a (t : Word) : (s.jump t).a = s.a := rfl
@[simp] theorem State.jump_x (t : Word) : (s.jump t).x = s.x := rfl
@[simp] theorem State.jump_y (t : Word) : (s.jump t).y = s.y := rfl
@[simp] theorem State.jump_sp (t : Word) : (s.jump t).sp = s.sp := rfl
@[simp] theorem State.jump_d (t : Word) : (s.jump t).d = s.d := rfl
@[simp] theorem State.jump_dbr (t : Word) : (s.jump t).dbr = s.dbr := rfl
@[simp] theorem State.jump_k (t : Word) : (s.jump t).k = s.k := rfl
@[simp] theorem State.jump_p (t : Word) : (s.jump t).p = s.p := rfl
@[simp] theorem State.jump_e (t : Word) : (s.jump t).e = s.e := rfl
@[simp] theorem State.jump_mdr (t : Word) : (s.jump t).mdr = s.mdr := rfl
@[simp] theorem State.jump_pending (t : Word) : (s.jump t).pending = s.pending := rfl
@[simp] theorem State.jump_waiting (t : Word) : (s.jump t).waiting = s.waiting := rfl
@[simp] theorem State.jump_stopped (t : Word) : (s.jump t).stopped = s.stopped := rfl
@[simp] theorem State.jump_fault (t : Word) : (s.jump t).fault = s.fault := rfl
@[simp] theorem State.jump_wram (t : Word) : (s.jump t).wram = s.wram := rfl
@[simp] theorem State.jump_cells (t : Word) : (s.jump t).cells = s.cells := rfl
@[simp] theorem State.jump_cart (t : Word) : (s.jump t).cart = s.cart := rfl
@[simp] theorem State.jump_vt (t : Word) : (s.jump t).vt = s.vt := rfl
@[simp] theorem State.jump_opAddr (t : Word) : (s.jump t).opAddr = s.opAddr := rfl
@[simp] theorem State.jump_draws (t : Word) : (s.jump t).draws = s.draws := rfl
@[simp] theorem State.jump_wM (t : Word) : (s.jump t).wM = s.wM := rfl
@[simp] theorem State.jump_wX (t : Word) : (s.jump t).wX = s.wX := rfl

/-! ### jumpLong -/

@[simp] theorem State.jumpLong_a (t : Addr) : (s.jumpLong t).a = s.a := rfl
@[simp] theorem State.jumpLong_x (t : Addr) : (s.jumpLong t).x = s.x := rfl
@[simp] theorem State.jumpLong_y (t : Addr) : (s.jumpLong t).y = s.y := rfl
@[simp] theorem State.jumpLong_sp (t : Addr) : (s.jumpLong t).sp = s.sp := rfl
@[simp] theorem State.jumpLong_d (t : Addr) : (s.jumpLong t).d = s.d := rfl
@[simp] theorem State.jumpLong_dbr (t : Addr) : (s.jumpLong t).dbr = s.dbr := rfl
@[simp] theorem State.jumpLong_p (t : Addr) : (s.jumpLong t).p = s.p := rfl
@[simp] theorem State.jumpLong_e (t : Addr) : (s.jumpLong t).e = s.e := rfl
@[simp] theorem State.jumpLong_mdr (t : Addr) : (s.jumpLong t).mdr = s.mdr := rfl
@[simp] theorem State.jumpLong_pending (t : Addr) : (s.jumpLong t).pending = s.pending := rfl
@[simp] theorem State.jumpLong_waiting (t : Addr) : (s.jumpLong t).waiting = s.waiting := rfl
@[simp] theorem State.jumpLong_stopped (t : Addr) : (s.jumpLong t).stopped = s.stopped := rfl
@[simp] theorem State.jumpLong_fault (t : Addr) : (s.jumpLong t).fault = s.fault := rfl
@[simp] theorem State.jumpLong_wram (t : Addr) : (s.jumpLong t).wram = s.wram := rfl
@[simp] theorem State.jumpLong_cells (t : Addr) : (s.jumpLong t).cells = s.cells := rfl
@[simp] theorem State.jumpLong_cart (t : Addr) : (s.jumpLong t).cart = s.cart := rfl
@[simp] theorem State.jumpLong_vt (t : Addr) : (s.jumpLong t).vt = s.vt := rfl
@[simp] theorem State.jumpLong_opAddr (t : Addr) : (s.jumpLong t).opAddr = s.opAddr := rfl
@[simp] theorem State.jumpLong_draws (t : Addr) : (s.jumpLong t).draws = s.draws := rfl
@[simp] theorem State.jumpLong_wM (t : Addr) : (s.jumpLong t).wM = s.wM := rfl
@[simp] theorem State.jumpLong_wX (t : Addr) : (s.jumpLong t).wX = s.wX := rfl

/-! ### branchIf -/

@[simp] theorem State.branchIf_a (b : Bool) (t : Word) : (s.branchIf b t).a = s.a := rfl
@[simp] theorem State.branchIf_x (b : Bool) (t : Word) : (s.branchIf b t).x = s.x := rfl
@[simp] theorem State.branchIf_y (b : Bool) (t : Word) : (s.branchIf b t).y = s.y := rfl
@[simp] theorem State.branchIf_sp (b : Bool) (t : Word) : (s.branchIf b t).sp = s.sp := rfl
@[simp] theorem State.branchIf_d (b : Bool) (t : Word) : (s.branchIf b t).d = s.d := rfl
@[simp] theorem State.branchIf_dbr (b : Bool) (t : Word) : (s.branchIf b t).dbr = s.dbr := rfl
@[simp] theorem State.branchIf_k (b : Bool) (t : Word) : (s.branchIf b t).k = s.k := rfl
@[simp] theorem State.branchIf_p (b : Bool) (t : Word) : (s.branchIf b t).p = s.p := rfl
@[simp] theorem State.branchIf_e (b : Bool) (t : Word) : (s.branchIf b t).e = s.e := rfl
@[simp] theorem State.branchIf_mdr (b : Bool) (t : Word) : (s.branchIf b t).mdr = s.mdr := rfl
@[simp] theorem State.branchIf_pending (b : Bool) (t : Word) : (s.branchIf b t).pending = s.pending := rfl
@[simp] theorem State.branchIf_waiting (b : Bool) (t : Word) : (s.branchIf b t).waiting = s.waiting := rfl
@[simp] theorem State.branchIf_stopped (b : Bool) (t : Word) : (s.branchIf b t).stopped = s.stopped := rfl
@[simp] theorem State.branchIf_fault (b : Bool) (t : Word) : (s.branchIf b t).fault = s.fault := rfl
@[simp] theorem State.branchIf_wram (b : Bool) (t : Word) : (s.branchIf b t).wram = s.wram := rfl
@[simp] theorem State.branchIf_cells (b : Bool) (t : Word) : (s.branchIf b t).cells = s.cells := rfl
@[simp] theorem State.branchIf_cart (b : Bool) (t : Word) : (s.branchIf b t).cart = s.cart := rfl
@[simp] theorem State.branchIf_vt (b : Bool) (t : Word) : (s.branchIf b t).vt = s.vt := rfl
@[simp] theorem State.branchIf_opAddr (b : Bool) (t : Word) : (s.branchIf b t).opAddr = s.opAddr := rfl
@[simp] theorem State.branchIf_draws (b : Bool) (t : Word) : (s.branchIf b t).draws = s.draws := rfl
@[simp] theorem State.branchIf_wM (b : Bool) (t : Word) : (s.branchIf b t).wM = s.wM := rfl
@[simp] theorem State.branchIf_wX (b : Bool) (t : Word) : (s.branchIf b t).wX = s.wX := rfl

/-! ### exchangeCE -/

@[simp] theorem State.exchangeCE_a : (s.exchangeCE).a = s.a := by unfold State.exchangeCE; dsimp only; split <;> rfl
@[simp] theorem State.exchangeCE_d : (s.exchangeCE).d = s.d := by unfold State.exchangeCE; dsimp only; split <;> rfl
@[simp] theorem State.exchangeCE_dbr : (s.exchangeCE).dbr = s.dbr := by unfold State.exchangeCE; dsimp only; split <;> rfl
@[simp] theorem State.exchangeCE_k : (s.exchangeCE).k = s.k := by unfold State.exchangeCE; dsimp only; split <;> rfl
@[simp] theorem State.exchangeCE_pc : (s.exchangeCE).pc = s.pc := by unfold State.exchangeCE; dsimp only; split <;> rfl
@[simp] theorem State.exchangeCE_mdr : (s.exchangeCE).mdr = s.mdr := by unfold State.exchangeCE; dsimp only; split <;> rfl
@[simp] theorem State.exchangeCE_pending : (s.exchangeCE).pending = s.pending := by unfold State.exchangeCE; dsimp only; split <;> rfl
@[simp] theorem State.exchangeCE_waiting : (s.exchangeCE).waiting = s.waiting := by unfold State.exchangeCE; dsimp only; split <;> rfl
@[simp] theorem State.exchangeCE_stopped : (s.exchangeCE).stopped = s.stopped := by unfold State.exchangeCE; dsimp only; split <;> rfl
@[simp] theorem State.exchangeCE_fault : (s.exchangeCE).fault = s.fault := by unfold State.exchangeCE; dsimp only; split <;> rfl
@[simp] theorem State.exchangeCE_wram : (s.exchangeCE).wram = s.wram := by unfold State.exchangeCE; dsimp only; split <;> rfl
@[simp] theorem State.exchangeCE_cells : (s.exchangeCE).cells = s.cells := by unfold State.exchangeCE; dsimp only; split <;> rfl
@[simp] theorem State.exchangeCE_cart : (s.exchangeCE).cart = s.cart := by unfold State.exchangeCE; dsimp only; split <;> rfl
@[simp] theorem State.exchangeCE_vt : (s.exchangeCE).vt = s.vt := by unfold State.exchangeCE; dsimp only; split <;> rfl
@[simp] theorem State.exchangeCE_opAddr : (s.exchangeCE).opAddr = s.opAddr := by unfold State.exchangeCE; dsimp only; split <;> rfl
@[simp] theorem State.exchangeCE_draws : (s.exchangeCE).draws = s.draws := by unfold State.exchangeCE; dsimp only; split <;> rfl

/-! ### What the updates write -/

theorem State.setA_w8 (v : Word) (h : s.p.m = true) : (s.setA v).a = mkWord (hiByte s.a) (loByte v) := by
  simp [State.setA, State.wM, h]

theorem State.setA_w16 (v : Word) (h : s.p.m = false) : (s.setA v).a = v := by
  simp [State.setA, State.wM, h]

@[simp] theorem State.setX_x (v : Word) : (s.setX v).x = trunc s.wX v := rfl
@[simp] theorem State.setY_y (v : Word) : (s.setY v).y = trunc s.wX v := rfl
@[simp] theorem State.setNZ_p (v : Word) (w : Width) : (s.setNZ v w).p = s.p.setNZ v w := rfl
@[simp] theorem State.writeP_p (v : Byte) : (s.writeP v).p = s.writtenP v := rfl
@[simp] theorem State.jump_pc (t : Word) : (s.jump t).pc = t := rfl
@[simp] theorem State.jumpLong_pc (t : Addr) : (s.jumpLong t).pc = offOf t := rfl
@[simp] theorem State.jumpLong_k (t : Addr) : (s.jumpLong t).k = bankOf t := rfl
@[simp] theorem State.noteOpAddr_opAddr : s.noteOpAddr.opAddr = mkAddr s.k s.pc := rfl
@[simp] theorem State.setRequest_pending (k : IntKind) : (s.setRequest k).pending = some k := rfl

/-! ### The flags of `setNZ` -/

@[simp] theorem Flags.setNZ_v (p : Flags) (v : Word) (w : Width) : (p.setNZ v w).v = p.v := rfl
@[simp] theorem Flags.setNZ_m (p : Flags) (v : Word) (w : Width) : (p.setNZ v w).m = p.m := rfl
@[simp] theorem Flags.setNZ_x (p : Flags) (v : Word) (w : Width) : (p.setNZ v w).x = p.x := rfl
@[simp] theorem Flags.setNZ_d (p : Flags) (v : Word) (w : Width) : (p.setNZ v w).d = p.d := rfl
@[simp] theorem Flags.setNZ_i (p : Flags) (v : Word) (w : Width) : (p.setNZ v w).i = p.i := rfl
@[simp] theorem Flags.setNZ_c (p : Flags) (v : Word) (w : Width) : (p.setNZ v w).c = p.c := rfl
@[simp] theorem Flags.setAlu_m (p : Flags) (r : AluResult) (w : Width) : (p.setAlu r w).m = p.m := rfl
@[simp] theorem Flags.setAlu_x (p : Flags) (r : AluResult) (w : Width) : (p.setAlu r w).x = p.x := rfl
@[simp] theorem Flags.setAlu_d (p : Flags) (r : AluResult) (w : Width) : (p.setAlu r w).d = p.d := rfl
@[simp] theorem Flags.setAlu_i (p : Flags) (r : AluResult) (w : Width) : (p.setAlu r w).i = p.i := rfl
@[simp] theorem Flags.compare_v (p : Flags) (a m : Word) (w : Width) : (p.compare a m w).v = p.v := rfl
@[simp] theorem Flags.compare_m (p : Flags) (a m : Word) (w : Width) : (p.compare a m w).m = p.m := rfl
@[simp] theorem Flags.compare_x (p : Flags) (a m : Word) (w : Width) : (p.compare a m w).x = p.x := rfl
@[simp] theorem Flags.compare_d (p : Flags) (a m : Word) (w : Width) : (p.compare a m w).d = p.d := rfl
@[simp] theorem Flags.compare_i (p : Flags) (a m : Word) (w : Width) : (p.compare a m w).i = p.i := rfl
@[simp] theorem Flags.setNZ_n (p : Flags) (v : Word) (w : Width) : (p.setNZ v w).n = signBit w v := rfl
@[simp] theorem Flags.setNZ_z (p : Flags) (v : Word) (w : Width) : (p.setNZ v w).z = isZeroAt w v := rfl

end Sys2Proof.Machine
end

