-- ==== Sys2Proof/Laws/Bus.lean ====
section
/-! SUPPORT. What the bus can do, once for each operation: which fields a read or a write can change, that every memory keeps its
canonical form, and where the address decoder goes. -/

namespace Sys2Proof.Machine

/-! ### The outcome of an operation -/

/-- Both ends of an operation, the value and the raise, leave a state with a property. -/
def Res.All {α : Type} (r : Res α) (P : State → Prop) : Prop :=
  match r with
  | .ok _ t => P t
  | .raise _ t => P t

@[simp] theorem Res.ok_bind {α β : Type} (v : α) (s : State) (f : α → State → Res β) : (Res.ok v s).bind f = f v s := rfl

@[simp] theorem Res.raise_bind {α β : Type} (e : Fault) (s : State) (f : α → State → Res β) :
    (Res.raise e s : Res α).bind f = .raise e s := rfl

theorem Res.bind_eq_ok {α β : Type} {r : Res α} {f : α → State → Res β} {w : β} {t : State} :
    r.bind f = .ok w t ↔ ∃ v s, r = .ok v s ∧ f v s = .ok w t := by
  cases r with
  | ok v s => simp [Res.bind]
  | raise e s => simp [Res.bind]

theorem Res.All.bind {α β : Type} {r : Res α} {f : α → State → Res β} {P Q : State → Prop}
    (hr : r.All P) (hraise : ∀ t, P t → Q t) (hf : ∀ v t, P t → (f v t).All Q) : (r.bind f).All Q := by
  cases r with
  | ok v s => exact hf v s hr
  | raise e s => exact hraise s hr

theorem Res.All.mono {α : Type} {r : Res α} {P Q : State → Prop} (hr : r.All P) (h : ∀ t, P t → Q t) : r.All Q := by
  cases r with
  | ok v s => exact h s hr
  | raise e s => exact h s hr

theorem Res.All.of_ok {α : Type} {r : Res α} {P : State → Prop} {v : α} {t : State} (hr : r.All P) (h : r = .ok v t) : P t := by
  rw [h] at hr; exact hr

theorem finish_eq_next {r : Res Unit} {t : State} :
    finish r = .next t ↔ r = .ok () t ∨ ∃ f s, r = .raise f s ∧ t = { s with fault := some f } := by
  cases r with
  | ok v s =>
    cases v
    simp [finish]
  | raise f s =>
    simp only [finish, Host.Outcome.next.injEq, reduceCtorEq, Res.raise.injEq, false_or]
    exact ⟨fun h => ⟨f, s, ⟨rfl, rfl⟩, h.symm⟩, fun ⟨_, _, ⟨rfl, rfl⟩, h⟩ => h.symm⟩

/-- A fault never ends a meaning: it is recorded in a next state (R440). -/
theorem finish_next (r : Res Unit) : ∃ t, finish r = .next t := by
  cases r <;> exact ⟨_, rfl⟩

/-! ### The address decoder -/

theorem decodeAddr_ne_undecoded (a : Addr) : decodeAddr a ≠ .undecoded := by
  have h := (bankOf a).isLt
  unfold decodeAddr isMirrorBank
  simp only [Bool.or_eq_true, decide_eq_true_eq]
  repeat' split
  all_goals first | (intro hc; cases hc; done) | omega

theorem decodeAddr_wram {a : Addr} {i : Nat} (h : decodeAddr a = .wram i) : isWramIndex i = true := by
  have hb := (bankOf a).isLt
  have ho := (offOf a).isLt
  revert h
  unfold decodeAddr isMirrorBank isWramIndex
  simp only [Bool.or_eq_true, decide_eq_true_eq]
  repeat' split
  all_goals (intro h; cases h <;> omega)

theorem decodeAddr_reg {a : Addr} {o : Nat} (h : decodeAddr a = .reg o) :
    isCellOffset o = true ∧ o = (offOf a).toNat := by
  revert h
  unfold decodeAddr isMirrorBank isCellOffset
  simp only [Bool.or_eq_true, decide_eq_true_eq]
  repeat' split
  all_goals (intro h; cases h <;> omega)

theorem decodeAddr_cart {a b : Addr} (h : decodeAddr a = .cart b) : b = a := by
  revert h
  unfold decodeAddr
  dsimp only
  repeat' split
  all_goals (intro h; cases h <;> rfl)

/-- The key of a cartridge address is a cartridge key. -/
theorem isCartKey_cartKey {a : Addr} (h : decodeAddr a = .cart a) : isCartKey (cartKey a) = true := by
  have ha := a.isLt
  have hb := bankOf_toNat a
  have ho := offOf_toNat a
  have hk : cartKey a < 0x1000000 := by unfold cartKey; split <;> omega
  have hkn : (BitVec.ofNat 24 (cartKey a)).toNat = cartKey a := by simp; omega
  have hkb := bankOf_toNat (BitVec.ofNat 24 (cartKey a))
  have hko := offOf_toNat (BitVec.ofNat 24 (cartKey a))
  rw [hkn] at hkb hko
  unfold isCartKey
  simp only [Bool.and_eq_true, decide_eq_true_eq]
  by_cases hm : isMirrorBank (bankOf a).toNat = true
  · have hkey : cartKey a = a.toNat % 0x800000 := by simp [cartKey, hm]
    have hoff : 0x8000 ≤ (offOf a).toNat := by
      revert h; unfold decodeAddr; simp only [hm, if_true]
      repeat' split
      all_goals (intro h; cases h <;> omega)
    have hbank : (bankOf a).toNat ≤ 0x3F ∨ (0x80 ≤ (bankOf a).toNat ∧ (bankOf a).toNat ≤ 0xBF) := by
      simpa [isMirrorBank] using hm
    have hm' : isMirrorBank (bankOf (BitVec.ofNat 24 (cartKey a))).toNat = true := by
      simp only [isMirrorBank, Bool.or_eq_true, decide_eq_true_eq]; omega
    refine ⟨⟨hk, ?_⟩, ?_⟩
    · unfold decodeAddr
      simp only [hm', if_true]
      repeat' split
      all_goals first | rfl | (exfalso; omega)
    · simp only [cartKey, hm', if_true] at *
      rw [hkn]; omega
  · have hkey : cartKey a = a.toNat := by simp [cartKey, hm]
    have ha' : BitVec.ofNat 24 (cartKey a) = a := by rw [hkey]; simp
    rw [ha']
    exact ⟨⟨hk, h⟩, rfl⟩

/-! ### What a read can change -/

/-- `t` is `s` but for the latch and the inner state of the cartridge's own logic: all that a bus read can change (R91). -/
def ReadOnly (s t : State) : Prop := t = { s with mdr := t.mdr, cart := { s.cart with inner := t.cart.inner } }

theorem ReadOnly.refl (s : State) : ReadOnly s s := rfl

theorem ReadOnly.trans {s t u : State} (h1 : ReadOnly s t) (h2 : ReadOnly t u) : ReadOnly s u := by
  unfold ReadOnly at *
  rw [h2, h1]

theorem memRead_readOnly (a : Addr) (s : State) : (memRead a s).All (ReadOnly s) := by
  unfold memRead cartRead
  cases decodeAddr a <;> dsimp only [readLatched]
  case cart b =>
    cases sparseRead CartCell.undriven s.cart.cells (cartKey b) <;> dsimp only <;> try exact rfl
    cases Config.cartDeviceRead s.cart.inner (cartKey b) <;> exact rfl
  all_goals exact rfl

/-! ### What a write can change -/

/-- `t` is `s` but for the latch and the contents of the memories: all that a bus write can change. -/
def BusOnly (s t : State) : Prop := t = { s with mdr := t.mdr, wram := t.wram, cells := t.cells, cart := t.cart }

theorem BusOnly.refl (s : State) : BusOnly s s := rfl

theorem BusOnly.trans {s t u : State} (h1 : BusOnly s t) (h2 : BusOnly t u) : BusOnly s u := by
  unfold BusOnly at *
  rw [h2, h1]

theorem ReadOnly.busOnly {s t : State} (h : ReadOnly s t) : BusOnly s t := by
  unfold ReadOnly at h
  unfold BusOnly
  rw [h]

theorem memRead_busOnly (a : Addr) (s : State) : (memRead a s).All (BusOnly s) :=
  (memRead_readOnly a s).mono fun _ h => h.busOnly

theorem storeByte_busOnly (a : Addr) (v : Byte) (s : State) : (storeByte a v s).All (BusOnly s) := by
  unfold storeByte
  cases decodeAddr a <;> dsimp only
  case cart b => cases cartWrite s.cart b v <;> exact rfl
  all_goals exact rfl

/-- One bus-only operation after another is bus-only. -/
theorem Res.All.bind_busOnly {α β : Type} {r : Res α} {f : α → State → Res β} {s : State}
    (hr : r.All (BusOnly s)) (hf : ∀ v t, (f v t).All (BusOnly t)) : (r.bind f).All (BusOnly s) :=
  hr.bind (fun _ h => h) fun v t h => (hf v t).mono fun _ h' => h.trans h'

theorem dmaByte_busOnly (n : Nat) (ctl : Byte) (a b : Addr) (s : State) : (dmaByte n ctl a b s).All (BusOnly s) := by
  unfold dmaByte
  split
  · exact rfl
  · split
    · exact (memRead_busOnly _ _).bind_busOnly fun v t => storeByte_busOnly _ _ _
    · exact (memRead_busOnly _ _).bind_busOnly fun v t => storeByte_busOnly _ _ _

theorem dmaBytes_busOnly (n : Nat) (ctl bbad bank : Byte) :
    ∀ (r k : Nat) (off : Word) (s : State), (dmaBytes n ctl bbad bank r k off s).All (BusOnly s)
  | 0, _, _, _ => rfl
  | r + 1, k, _, _ =>
    (dmaByte_busOnly _ _ _ _ _).bind_busOnly fun _ t => dmaBytes_busOnly n ctl bbad bank r (k + 1) _ t

theorem dmaChannel_busOnly (n : Nat) (s : State) : (dmaChannel n s).All (BusOnly s) := by
  unfold dmaChannel
  dsimp only
  split
  · exact rfl
  · exact (dmaBytes_busOnly _ _ _ _ _ _ _ _).bind_busOnly fun _ _ => rfl

theorem dmaChannels_busOnly (v : Byte) : ∀ (ns : List Nat) (s : State), (dmaChannels v ns s).All (BusOnly s)
  | [], _ => rfl
  | n :: ns, s => by
    unfold dmaChannels
    split
    · exact (dmaChannel_busOnly n s).bind_busOnly fun _ t => dmaChannels_busOnly v ns t
    · exact dmaChannels_busOnly v ns s

theorem memWrite_busOnly (a : Addr) (v : Byte) (s : State) : (memWrite a v s).All (BusOnly s) := by
  unfold memWrite
  refine (storeByte_busOnly a v s).bind_busOnly fun _ t => ?_
  split
  · exact dmaChannels_busOnly v _ t
  · exact rfl

/-- A write to any address but the DMA-enable register is the plain store (R81, R82). -/
theorem memWrite_eq_storeByte {a : Addr} (h : decodeAddr a ≠ .reg 0x420B) (v : Byte) (s : State) :
    memWrite a v s = storeByte a v s := by
  unfold memWrite
  simp only [h, if_false]
  cases storeByte a v s <;> rfl

/-! ### The canonical form of the memories -/

theorem memoriesOk_iff (s : State) : s.memoriesOk = true ↔
    (s.wram.wf = true ∧ keysIn isWramIndex s.wram = true) ∧ (s.cells.wf = true ∧ keysIn isCellOffset s.cells = true) ∧
      (sparseWfFrom CartCell.undriven 0 s.cart.cells = true ∧ keysIn isCartKey s.cart.cells = true) := by
  simp [State.memoriesOk, and_assoc]

/-- `t` keeps the canonical form of the memories if `s` has it. -/
def KeepsMemories (s t : State) : Prop := s.memoriesOk = true → t.memoriesOk = true

theorem ReadOnly.keepsMemories {s t : State} (h : ReadOnly s t) : KeepsMemories s t := by
  intro hs
  unfold ReadOnly at h
  rw [h]
  exact hs

theorem State.writeWram_memoriesOk {s : State} {i : Nat} (v m : Byte) (h : s.memoriesOk = true) (hi : isWramIndex i = true) :
    State.memoriesOk { s with mdr := m, wram := s.wram.write i v } = true := by
  rw [memoriesOk_iff] at *
  exact ⟨⟨Memory.wf_write _ _ _ h.1.1, Memory.keysIn_write _ _ _ hi h.1.2⟩, h.2⟩

theorem State.writeCells_memoriesOk {s : State} {o : Nat} (v m : Byte) (h : s.memoriesOk = true) (ho : isCellOffset o = true) :
    State.memoriesOk { s with mdr := m, cells := s.cells.write o v } = true := by
  rw [memoriesOk_iff] at *
  exact ⟨h.1, ⟨Memory.wf_write _ _ _ h.2.1.1, Memory.keysIn_write _ _ _ ho h.2.1.2⟩, h.2.2⟩

theorem storeByte_keepsMemories (a : Addr) (v : Byte) (s : State) : (storeByte a v s).All (KeepsMemories s) := by
  unfold storeByte
  cases hd : decodeAddr a <;> dsimp only
  case wram i => exact fun h => State.writeWram_memoriesOk v v h (decodeAddr_wram hd)
  case reg o => exact fun h => State.writeCells_memoriesOk v v h (decodeAddr_reg hd).1
  case openBus => exact fun h => h
  case undecoded => exact fun h => h
  case cart b =>
    obtain rfl := decodeAddr_cart hd
    unfold cartWrite
    cases hc : sparseRead CartCell.undriven s.cart.cells (cartKey b) <;> dsimp only
    case ram w =>
      intro h
      rw [memoriesOk_iff] at *
      exact ⟨h.1, h.2.1, sparseWfFrom_write _ (Nat.zero_le _) h.2.2.1, keysIn_write _ (isCartKey_cartKey hd) h.2.2.2⟩
    case device =>
      cases Config.cartDeviceWriteOk s.cart.inner b v <;> exact fun h => h
    all_goals exact fun h => h

theorem Res.All.bind_keepsMemories {α β : Type} {r : Res α} {f : α → State → Res β} {s : State}
    (hr : r.All (KeepsMemories s)) (hf : ∀ v t, (f v t).All (KeepsMemories t)) : (r.bind f).All (KeepsMemories s) :=
  hr.bind (fun _ h => h) fun v t h => (hf v t).mono fun _ h' hs => h' (h hs)

theorem memRead_keepsMemories (a : Addr) (s : State) : (memRead a s).All (KeepsMemories s) :=
  (memRead_readOnly a s).mono fun _ h => h.keepsMemories

theorem dmaByte_keepsMemories (n : Nat) (ctl : Byte) (a b : Addr) (s : State) :
    (dmaByte n ctl a b s).All (KeepsMemories s) := by
  unfold dmaByte
  split
  · exact fun h => h
  · split
    · exact (memRead_keepsMemories _ _).bind_keepsMemories fun v t => storeByte_keepsMemories _ _ _
    · exact (memRead_keepsMemories _ _).bind_keepsMemories fun v t => storeByte_keepsMemories _ _ _

theorem dmaBytes_keepsMemories (n : Nat) (ctl bbad bank : Byte) :
    ∀ (r k : Nat) (off : Word) (s : State), (dmaBytes n ctl bbad bank r k off s).All (KeepsMemories s)
  | 0, _, _, _ => fun h => h
  | r + 1, k, _, _ =>
    (dmaByte_keepsMemories _ _ _ _ _).bind_keepsMemories fun _ t => dmaBytes_keepsMemories n ctl bbad bank r (k + 1) _ t

theorem dmaWriteBack_keepsMemories (n : Nat) (hn : n < 8) (off : Word) (s : State) :
    KeepsMemories s (dmaWriteBack (0x4300 + 0x10 * n) off s) := by
  intro h
  have w : ∀ {t : State} {j : Nat} (v : Byte), 2 ≤ j → j ≤ 6 → t.memoriesOk = true →
      State.memoriesOk { t with cells := t.cells.write (0x4300 + 0x10 * n + j) v } = true := by
    intro t j v _ _ ht
    refine State.writeCells_memoriesOk v t.mdr ht ?_
    simp only [isCellOffset, Bool.or_eq_true, decide_eq_true_eq]; omega
  exact w _ (by omega) (by omega) (w _ (by omega) (by omega) (w _ (by omega) (by omega) (w _ (by omega) (by omega) h)))

theorem dmaChannel_keepsMemories (n : Nat) (hn : n < 8) (s : State) : (dmaChannel n s).All (KeepsMemories s) := by
  unfold dmaChannel
  dsimp only
  split
  · exact fun h => h
  · exact (dmaBytes_keepsMemories _ _ _ _ _ _ _ _).bind_keepsMemories fun _ t => dmaWriteBack_keepsMemories n hn _ t

theorem dmaChannels_keepsMemories (v : Byte) :
    ∀ (ns : List Nat) (s : State), (∀ n ∈ ns, n < 8) → (dmaChannels v ns s).All (KeepsMemories s)
  | [], _, _ => fun h => h
  | n :: ns, s, hn => by
    have htail : ∀ m ∈ ns, m < 8 := fun m hm => hn m (List.mem_cons_of_mem _ hm)
    unfold dmaChannels
    split
    · exact (dmaChannel_keepsMemories n (hn n List.mem_cons_self) s).bind_keepsMemories fun _ t =>
        dmaChannels_keepsMemories v ns t htail
    · exact dmaChannels_keepsMemories v ns s htail

theorem memWrite_keepsMemories (a : Addr) (v : Byte) (s : State) : (memWrite a v s).All (KeepsMemories s) := by
  unfold memWrite
  refine (storeByte_keepsMemories a v s).bind_keepsMemories fun _ t => ?_
  split
  · exact dmaChannels_keepsMemories v _ t (by decide)
  · exact fun h => h

/-! ### The stored byte after a plain store -/

/-- A plain store leaves every other stored byte alone. -/
theorem storeByte_stored_other {a b : Addr} {v : Byte} {s t : State} (h : storeByte a v s = .ok () t)
    (hab : sameByte a b = false) : t.stored b = s.stored b := by
  revert h
  unfold storeByte
  unfold sameByte at hab
  cases hd : decodeAddr a <;> dsimp only <;> rw [hd] at hab
  case wram i =>
    intro h; cases h
    unfold State.stored
    cases hb : decodeAddr b <;> (rw [hb] at hab; try dsimp only at *)
    rw [Memory.read_write_other _ _ _ _ (by rintro rfl; simp at hab)]
  case reg o =>
    intro h; cases h
    unfold State.stored
    cases hb : decodeAddr b <;> (rw [hb] at hab; try dsimp only at *)
    rw [Memory.read_write_other _ _ _ _ (by rintro rfl; simp at hab)]
  case openBus => intro h; cases h; rfl
  case undecoded => intro h; cases h
  case cart c =>
    unfold cartWrite State.stored
    cases hc : sparseRead CartCell.undriven s.cart.cells (cartKey c) <;> dsimp only
    case ram w =>
      intro h; cases h
      cases hb : decodeAddr b <;> (rw [hb] at hab; try dsimp only at *)
      rw [sparseRead_write_other _ (by intro e; simp [e] at hab)]
    case device =>
      split
      · intro h
        rename_i heq
        split at heq <;> cases heq
        cases h
        rfl
      · intro h; cases h
    case unsupported => intro h; cases h
    all_goals intro h; cases h; rfl

end Sys2Proof.Machine
end

