-- ==== Sys2Proof/Laws/Operands.lean ====
section
/-! SUPPORT. What operand reads and writes can do, once for each operation: a read changes the latch and the cartridge's inner
state alone, a write the latch and the memories alone, and both keep the memories in canonical form. -/

namespace Sys2Proof.Machine

/-! ### Reads -/

/-- One read after another is read-only. -/
theorem Res.All.bind_readOnly {α β : Type} {r : Res α} {f : α → State → Res β} {s : State}
    (hr : r.All (ReadOnly s)) (hf : ∀ v t, (f v t).All (ReadOnly t)) : (r.bind f).All (ReadOnly s) :=
  hr.bind (fun _ h => h) fun v t h => (hf v t).mono fun _ h' => h.trans h'

theorem readFrom_readOnly (ea : EA) : ∀ (n k : Nat) (s : State), (readFrom ea k n s).All (ReadOnly s)
  | 0, _, s => ReadOnly.refl s
  | n + 1, k, s =>
    (memRead_readOnly _ s).bind_readOnly fun _ t =>
      (readFrom_readOnly ea n (k + 1) t).bind_readOnly fun _ u => ReadOnly.refl u

theorem readN_readOnly (ea : EA) (n : Nat) (s : State) : (readN ea n s).All (ReadOnly s) := readFrom_readOnly ea n 0 s

theorem readWord_readOnly (ea : EA) (s : State) : (readWord ea s).All (ReadOnly s) :=
  (readN_readOnly ea 2 s).bind_readOnly fun _ t => ReadOnly.refl t

theorem pointerAddr_readOnly (ea : EA) (s : State) : (pointerAddr ea s).All (ReadOnly s) :=
  (readWord_readOnly ea s).bind_readOnly fun _ t => ReadOnly.refl t

theorem longPointerAddr_readOnly (ea : EA) (s : State) : (longPointerAddr ea s).All (ReadOnly s) :=
  (readN_readOnly ea 3 s).bind_readOnly fun _ t => ReadOnly.refl t

theorem getAddress_readOnly (mode : MemMode) (s : State) : (getAddress mode s).All (ReadOnly s) := by
  cases mode
  case dpInd o => exact pointerAddr_readOnly _ s
  case dpIndX o => exact pointerAddr_readOnly _ s
  case dpIndL o => exact longPointerAddr_readOnly _ s
  case dpIndY o => exact (pointerAddr_readOnly _ s).bind_readOnly fun _ t => ReadOnly.refl t
  case srIndY o => exact (pointerAddr_readOnly _ s).bind_readOnly fun _ t => ReadOnly.refl t
  case dpIndLY o => exact (longPointerAddr_readOnly _ s).bind_readOnly fun _ t => ReadOnly.refl t
  all_goals exact ReadOnly.refl s

theorem readAt_readOnly (ea : EA) (w : Width) (s : State) : (readAt ea w s).All (ReadOnly s) :=
  (readN_readOnly ea _ s).bind_readOnly fun _ t => ReadOnly.refl t

theorem getValue_readOnly (op : Operand) (w : Width) (s : State) : (getValue op w s).All (ReadOnly s) := by
  cases op
  case mem mode => exact (getAddress_readOnly mode s).bind_readOnly fun ea t => readAt_readOnly ea w t
  all_goals exact ReadOnly.refl s

/-! What a read-only change keeps. -/

namespace ReadOnly

variable {s t : State} (h : ReadOnly s t)
include h

theorem a_eq : t.a = s.a := by rw [h]
theorem x_eq : t.x = s.x := by rw [h]
theorem y_eq : t.y = s.y := by rw [h]
theorem sp_eq : t.sp = s.sp := by rw [h]
theorem d_eq : t.d = s.d := by rw [h]
theorem dbr_eq : t.dbr = s.dbr := by rw [h]
theorem k_eq : t.k = s.k := by rw [h]
theorem pc_eq : t.pc = s.pc := by rw [h]
theorem p_eq : t.p = s.p := by rw [h]
theorem e_eq : t.e = s.e := by rw [h]
theorem wram_eq : t.wram = s.wram := by rw [h]
theorem cells_eq : t.cells = s.cells := by rw [h]
theorem cartCells_eq : t.cart.cells = s.cart.cells := by rw [h]
theorem opAddr_eq : t.opAddr = s.opAddr := by rw [h]
theorem wM_eq : t.wM = s.wM := by rw [h]; rfl
theorem wX_eq : t.wX = s.wX := by rw [h]; rfl
theorem getA_eq : t.getA = s.getA := by rw [h]; rfl
theorem getX_eq : t.getX = s.getX := by rw [h]; rfl
theorem getY_eq : t.getY = s.getY := by rw [h]; rfl

/-- A read-only change alters no stored byte. -/
theorem stored_eq (a : Addr) : t.stored a = s.stored a := by
  rw [h]; rfl

end ReadOnly

/-- A value read at width 8 is a byte. -/
theorem readAt_lt {ea : EA} {w : Width} {s t : State} {v : Word} (h : readAt ea w s = .ok v t) : v.toNat < 2 ^ w.bits := by
  cases w with
  | w16 => exact v.isLt
  | w8 =>
    obtain ⟨p, s1, h1, h2⟩ := Res.bind_eq_ok.1 h
    obtain ⟨b, s2, _, h4⟩ := Res.bind_eq_ok.1 h1
    cases h2
    cases h4
    have hb := b.isLt
    simp only [offOf_toNat, Width.bits]
    simp
    omega

/-- An operand's value fits its width (R153). -/
theorem getValue_lt {op : Operand} {s t : State} {v : Word} (w : Width) (hw : op = .acc → w = s.wM)
    (h : getValue op w s = .ok v t) : v.toNat < 2 ^ w.bits := by
  cases op with
  | imm i =>
    cases h
    cases w with
    | w16 => exact (trunc .w16 _).isLt
    | w8 => simpa [trunc, zext8_toNat, Width.bits] using (loByte (Imm.value i)).isLt
  | acc =>
    cases h
    rw [hw rfl]
    unfold State.getA
    cases s.wM with
    | w16 => exact (trunc .w16 _).isLt
    | w8 => simpa [trunc, zext8_toNat, Width.bits] using (loByte s.a).isLt
  | mem mode =>
    obtain ⟨ea, s1, _, h2⟩ := Res.bind_eq_ok.1 h
    exact readAt_lt h2

/-! ### Writes -/

theorem writeFrom_busOnly (ea : EA) : ∀ (n k : Nat) (v : Word) (s : State), (writeFrom ea k n v s).All (BusOnly s)
  | 0, _, _, s => BusOnly.refl s
  | n + 1, k, _, s => (memWrite_busOnly _ _ s).bind_busOnly fun _ t => writeFrom_busOnly ea n (k + 1) _ t

theorem writeN_busOnly (ea : EA) (n : Nat) (v : Word) (s : State) : (writeN ea n v s).All (BusOnly s) :=
  writeFrom_busOnly ea n 0 v s

theorem writeFrom_keepsMemories (ea : EA) :
    ∀ (n k : Nat) (v : Word) (s : State), (writeFrom ea k n v s).All (KeepsMemories s)
  | 0, _, _, _ => fun h => h
  | n + 1, k, _, s => (memWrite_keepsMemories _ _ s).bind_keepsMemories fun _ t => writeFrom_keepsMemories ea n (k + 1) _ t

theorem writeN_keepsMemories (ea : EA) (n : Nat) (v : Word) (s : State) : (writeN ea n v s).All (KeepsMemories s) :=
  writeFrom_keepsMemories ea n 0 v s

/-! What a bus-only change keeps. -/

namespace BusOnly

variable {s t : State} (h : BusOnly s t)
include h

theorem a_eq : t.a = s.a := by rw [h]
theorem x_eq : t.x = s.x := by rw [h]
theorem y_eq : t.y = s.y := by rw [h]
theorem sp_eq : t.sp = s.sp := by rw [h]
theorem d_eq : t.d = s.d := by rw [h]
theorem dbr_eq : t.dbr = s.dbr := by rw [h]
theorem k_eq : t.k = s.k := by rw [h]
theorem pc_eq : t.pc = s.pc := by rw [h]
theorem p_eq : t.p = s.p := by rw [h]
theorem e_eq : t.e = s.e := by rw [h]
theorem pending_eq : t.pending = s.pending := by rw [h]
theorem waiting_eq : t.waiting = s.waiting := by rw [h]
theorem stopped_eq : t.stopped = s.stopped := by rw [h]
theorem fault_eq : t.fault = s.fault := by rw [h]
theorem vt_eq : t.vt = s.vt := by rw [h]
theorem opAddr_eq : t.opAddr = s.opAddr := by rw [h]
theorem draws_eq : t.draws = s.draws := by rw [h]
theorem wM_eq : t.wM = s.wM := by rw [h]; rfl
theorem wX_eq : t.wX = s.wX := by rw [h]; rfl
theorem getA_eq : t.getA = s.getA := by rw [h]; rfl
theorem getX_eq : t.getX = s.getX := by rw [h]; rfl
theorem getY_eq : t.getY = s.getY := by rw [h]; rfl

/-- A bus-only change keeps the width rules. -/
theorem widthsOk_eq : t.widthsOk = s.widthsOk := by rw [h]; rfl

end BusOnly

/-! ### Stored bytes -/

/-- Both ends of a plain store leave every other stored byte alone. -/
theorem storeByte_all_stored {a b : Addr} (hab : sameByte a b = false) (v : Byte) (s : State) :
    (storeByte a v s).All fun t => t.stored b = s.stored b := by
  cases h : storeByte a v s with
  | ok u t => exact storeByte_stored_other (by rw [h]) hab
  | raise f t =>
    have : t = { s with mdr := v } := by
      unfold storeByte at h
      cases hd : decodeAddr a <;> simp only [hd] at h
      case cart c => cases hc : cartWrite s.cart c v <;> simp_all
      all_goals simp_all
    subst this
    rfl

/-- A write away from the DMA-enable register leaves every other stored byte alone. -/
theorem memWrite_all_stored {a b : Addr} (hd : decodeAddr a ≠ .reg 0x420B) (hab : sameByte a b = false) (v : Byte) (s : State) :
    (memWrite a v s).All fun t => t.stored b = s.stored b := by
  rw [memWrite_eq_storeByte hd]
  exact storeByte_all_stored hab v s

/-- An operand write away from the DMA-enable register leaves alone every stored byte but its own. -/
theorem writeFrom_all_stored {ea : EA} {b : Addr} : ∀ (n k : Nat) (v : Word) (s : State),
    (∀ j, k ≤ j → j < k + n → decodeAddr (ea.byteAddr j) ≠ .reg 0x420B) →
    (∀ j, k ≤ j → j < k + n → sameByte (ea.byteAddr j) b = false) →
    (writeFrom ea k n v s).All fun t => t.stored b = s.stored b
  | 0, _, _, _, _, _ => rfl
  | n + 1, k, v, s, hd, hs =>
    (memWrite_all_stored (hd k (Nat.le_refl k) (by omega)) (hs k (Nat.le_refl k) (by omega)) _ s).bind (fun _ h => h)
      fun _ t ht =>
        (writeFrom_all_stored n (k + 1) _ t (fun j h1 h2 => hd j (by omega) (by omega))
          (fun j h1 h2 => hs j (by omega) (by omega))).mono fun _ h => h.trans ht

theorem writeN_all_stored {ea : EA} {b : Addr} (n : Nat) (v : Word) (s : State)
    (hd : ∀ k < n, decodeAddr (ea.byteAddr k) ≠ .reg 0x420B) (hs : ∀ k < n, sameByte (ea.byteAddr k) b = false) :
    (writeN ea n v s).All fun t => t.stored b = s.stored b :=
  writeFrom_all_stored n 0 v s (fun j _ h => hd j (by omega)) fun j _ h => hs j (by omega)

end Sys2Proof.Machine
end

