-- ==== Sys2Proof/Laws/Stack.lean ====
section
/-! SUPPORT. What the stack primitives, taking an exception and returning from one can do: which fields they can change, that they
keep the memories in canonical form, and that they keep the well-formedness of the state. -/

namespace Sys2Proof.Machine

/-! ### S and the bus -/

/-- `t` is `s` but for S, the latch and the memories: all that a push or a pull can change. -/
def StackOnly (s t : State) : Prop :=
  t = { s with sp := t.sp, mdr := t.mdr, wram := t.wram, cells := t.cells, cart := t.cart }

theorem StackOnly.refl (s : State) : StackOnly s s := rfl

theorem StackOnly.trans {s t u : State} (h1 : StackOnly s t) (h2 : StackOnly t u) : StackOnly s u := by
  unfold StackOnly at *
  rw [h2, h1]

theorem BusOnly.stackOnly {s t : State} (h : BusOnly s t) : StackOnly s t := by
  unfold BusOnly at h
  unfold StackOnly
  rw [h]

theorem State.setS_stackOnly (s : State) (v : Word) : StackOnly s (s.setS v) := rfl

theorem Res.All.bind_stackOnly {α β : Type} {r : Res α} {f : α → State → Res β} {s : State}
    (hr : r.All (StackOnly s)) (hf : ∀ v t, (f v t).All (StackOnly t)) : (r.bind f).All (StackOnly s) :=
  hr.bind (fun _ h => h) fun v t h => (hf v t).mono fun _ h' => h.trans h'

theorem push8_stackOnly (v : Byte) (s : State) : (push8 v s).All (StackOnly s) :=
  ((memWrite_busOnly _ v s).mono fun _ h => h.stackOnly).bind_stackOnly fun _ t => State.setS_stackOnly t _

theorem pop8_stackOnly (s : State) : (pop8 s).All (StackOnly s) :=
  (memRead_busOnly _ _).mono fun _ h => (State.setS_stackOnly s _).trans h.stackOnly

theorem push16_stackOnly (v : Word) (s : State) : (push16 v s).All (StackOnly s) :=
  (push8_stackOnly _ s).bind_stackOnly fun _ t => push8_stackOnly _ t

theorem pop16_stackOnly (s : State) : (pop16 s).All (StackOnly s) :=
  (pop8_stackOnly s).bind_stackOnly fun _ t => (pop8_stackOnly t).bind_stackOnly fun _ u => StackOnly.refl u

theorem pushAt_stackOnly (w : Width) (v : Word) (s : State) : (pushAt w v s).All (StackOnly s) := by
  cases w with
  | w8 => exact push8_stackOnly _ s
  | w16 => exact push16_stackOnly _ s

theorem popAt_stackOnly (w : Width) (s : State) : (popAt w s).All (StackOnly s) := by
  cases w with
  | w8 => exact (pop8_stackOnly s).bind_stackOnly fun _ t => StackOnly.refl t
  | w16 => exact pop16_stackOnly s

namespace StackOnly

variable {s t : State} (h : StackOnly s t)
include h

theorem a_eq : t.a = s.a := by rw [h]
theorem x_eq : t.x = s.x := by rw [h]
theorem y_eq : t.y = s.y := by rw [h]
theorem d_eq : t.d = s.d := by rw [h]
theorem dbr_eq : t.dbr = s.dbr := by rw [h]
theorem k_eq : t.k = s.k := by rw [h]
theorem pc_eq : t.pc = s.pc := by rw [h]
theorem p_eq : t.p = s.p := by rw [h]
theorem e_eq : t.e = s.e := by rw [h]
theorem pending_eq : t.pending = s.pending := by rw [h]
theorem waiting_eq : t.waiting = s.waiting := by rw [h]
theorem stopped_eq : t.stopped = s.stopped := by rw [h]
theorem vt_eq : t.vt = s.vt := by rw [h]
theorem opAddr_eq : t.opAddr = s.opAddr := by rw [h]
theorem draws_eq : t.draws = s.draws := by rw [h]
theorem wM_eq : t.wM = s.wM := by rw [h]; rfl
theorem wX_eq : t.wX = s.wX := by rw [h]; rfl

end StackOnly

/-! ### A pull changes S, the latch and the cartridge's inner state alone -/

/-- `t` is `s` but for S, the latch and the cartridge's inner state. -/
def PullOnly (s t : State) : Prop :=
  t = { s with sp := t.sp, mdr := t.mdr, cart := { s.cart with inner := t.cart.inner } }

theorem PullOnly.refl (s : State) : PullOnly s s := rfl

theorem PullOnly.trans {s t u : State} (h1 : PullOnly s t) (h2 : PullOnly t u) : PullOnly s u := by
  unfold PullOnly at *
  rw [h2, h1]

theorem ReadOnly.pullOnly {s t : State} (h : ReadOnly s t) : PullOnly s t := by
  unfold ReadOnly at h
  unfold PullOnly
  rw [h]

theorem PullOnly.stored_eq {s t : State} (h : PullOnly s t) (a : Addr) : t.stored a = s.stored a := by
  rw [h]; rfl

theorem Res.All.bind_pullOnly {α β : Type} {r : Res α} {f : α → State → Res β} {s : State}
    (hr : r.All (PullOnly s)) (hf : ∀ v t, (f v t).All (PullOnly t)) : (r.bind f).All (PullOnly s) :=
  hr.bind (fun _ h => h) fun v t h => (hf v t).mono fun _ h' => h.trans h'

theorem pop8_pullOnly (s : State) : (pop8 s).All (PullOnly s) :=
  (memRead_readOnly _ _).mono fun _ h => PullOnly.trans (t := s.setS (s.sp + 1)) rfl h.pullOnly

theorem pop16_pullOnly (s : State) : (pop16 s).All (PullOnly s) :=
  (pop8_pullOnly s).bind_pullOnly fun _ t => (pop8_pullOnly t).bind_pullOnly fun _ u => PullOnly.refl u

theorem popAt_pullOnly (w : Width) (s : State) : (popAt w s).All (PullOnly s) := by
  cases w with
  | w8 => exact (pop8_pullOnly s).bind_pullOnly fun _ t => PullOnly.refl t
  | w16 => exact pop16_pullOnly s

/-! ### Well-formedness -/

/-- `t` is well-formed if `s` is. -/
def KeepsInv (s t : State) : Prop := s.Inv = true → t.Inv = true

theorem KeepsInv.refl (s : State) : KeepsInv s s := fun h => h

theorem KeepsInv.trans {s t u : State} (h1 : KeepsInv s t) (h2 : KeepsInv t u) : KeepsInv s u := fun h => h2 (h1 h)

theorem State.inv_iff (s : State) : s.Inv = true ↔ s.memoriesOk = true ∧ s.widthsOk = true := by
  simp [State.Inv]

/-- The width rules, one by one (R22, R31). -/
theorem State.widthsOk_iff (s : State) : s.widthsOk = true ↔
    (s.p.x = true → hiByte s.x = 0 ∧ hiByte s.y = 0) ∧
      (s.e = true → s.p.m = true ∧ s.p.x = true ∧ hiByte s.sp = 0x01) := by
  cases hx : s.p.x <;> cases he : s.e <;> simp [State.widthsOk, hx, he, and_assoc]

theorem keepsInv_of {s t : State} (hm : KeepsMemories s t) (hw : s.widthsOk = true → t.widthsOk = true) : KeepsInv s t := by
  intro h
  rw [State.inv_iff] at *
  exact ⟨hm h.1, hw h.2⟩

theorem Res.All.bind_keepsInv {α β : Type} {r : Res α} {f : α → State → Res β} {s : State}
    (hr : r.All (KeepsInv s)) (hf : ∀ v t, (f v t).All (KeepsInv t)) : (r.bind f).All (KeepsInv s) :=
  hr.bind (fun _ h => h) fun v t h => (hf v t).mono fun _ h' => h.trans h'

theorem keepsInv_of_busOnly {s t : State} (hb : BusOnly s t) (hm : KeepsMemories s t) : KeepsInv s t :=
  keepsInv_of hm fun h => by rw [hb.widthsOk_eq]; exact h

theorem Res.All.keepsInv_of_busOnly {α : Type} {r : Res α} {s : State} (hb : r.All (BusOnly s)) (hm : r.All (KeepsMemories s)) :
    r.All (KeepsInv s) := by
  cases r with
  | ok v t => exact Sys2Proof.Machine.keepsInv_of_busOnly hb hm
  | raise e t => exact Sys2Proof.Machine.keepsInv_of_busOnly hb hm

theorem memRead_keepsInv (a : Addr) (s : State) : (memRead a s).All (KeepsInv s) :=
  (memRead_busOnly a s).keepsInv_of_busOnly (memRead_keepsMemories a s)

theorem memWrite_keepsInv (a : Addr) (v : Byte) (s : State) : (memWrite a v s).All (KeepsInv s) :=
  (memWrite_busOnly a v s).keepsInv_of_busOnly (memWrite_keepsMemories a v s)

theorem writeN_keepsInv (ea : EA) (n : Nat) (v : Word) (s : State) : (writeN ea n v s).All (KeepsInv s) :=
  (writeN_busOnly ea n v s).keepsInv_of_busOnly (writeN_keepsMemories ea n v s)

theorem ReadOnly.keepsInv {s t : State} (h : ReadOnly s t) : KeepsInv s t :=
  keepsInv_of_busOnly h.busOnly h.keepsMemories

theorem Res.All.keepsInv_of_readOnly {α : Type} {r : Res α} {s : State} (h : r.All (ReadOnly s)) : r.All (KeepsInv s) :=
  h.mono fun _ h => h.keepsInv

/-! ### Well-formedness of the register updates -/

theorem State.setA_keepsInv (s : State) (v : Word) : KeepsInv s (s.setA v) := fun h => h

theorem State.setX_keepsInv (s : State) (v : Word) : KeepsInv s (s.setX v) :=
  keepsInv_of (fun h => h) fun h => by
    rw [State.widthsOk_iff] at *
    refine ⟨fun hx => ⟨?_, (h.1 hx).2⟩, h.2⟩
    have hw : s.wX = .w8 := by
      unfold State.wX
      simp [show s.p.x = true from hx]
    simp [State.setX, hw]

theorem State.setY_keepsInv (s : State) (v : Word) : KeepsInv s (s.setY v) :=
  keepsInv_of (fun h => h) fun h => by
    rw [State.widthsOk_iff] at *
    refine ⟨fun hx => ⟨(h.1 hx).1, ?_⟩, h.2⟩
    have hw : s.wX = .w8 := by
      unfold State.wX
      simp [show s.p.x = true from hx]
    simp [State.setY, hw]

theorem State.setS_keepsInv (s : State) (v : Word) : KeepsInv s (s.setS v) :=
  keepsInv_of (fun h => h) fun h => by
    rw [State.widthsOk_iff] at *
    refine ⟨h.1, fun he => ⟨(h.2 he).1, (h.2 he).2.1, ?_⟩⟩
    have he' : s.e = true := he
    simp [State.setS, he']

/-- An update of P that keeps M and X keeps the state well-formed. -/
theorem State.withFlags_keepsInv (s : State) (p : Flags) (hm : p.m = s.p.m) (hx : p.x = s.p.x) :
    KeepsInv s { s with p := p } :=
  keepsInv_of (fun h => h) fun h => by
    rw [State.widthsOk_iff] at *
    simpa [hm, hx] using h

theorem State.setNZ_keepsInv (s : State) (v : Word) (w : Width) : KeepsInv s (s.setNZ v w) :=
  State.withFlags_keepsInv s _ rfl rfl

theorem State.writeP_keepsInv (s : State) (v : Byte) : KeepsInv s (s.writeP v) :=
  keepsInv_of (fun h => h) fun h => by
    rw [State.widthsOk_iff] at *
    refine ⟨fun hx => ?_, fun he => ?_⟩
    · have hx' : (s.writtenP v).x = true := hx
      simp [State.writeP, hx']
    · have he' : s.e = true := he
      simp [State.writeP, State.writtenP, he', (h.2 he').2.2]

theorem State.enterEmulation_widthsOk (s : State) : s.enterEmulation.widthsOk = true := by
  rw [State.widthsOk_iff]
  simp [State.enterEmulation]

theorem State.exchangeCE_keepsInv (s : State) : KeepsInv s s.exchangeCE := by
  unfold State.exchangeCE
  dsimp only
  split
  · exact keepsInv_of (fun h => h) fun _ => State.enterEmulation_widthsOk _
  · rename_i he
    refine keepsInv_of (fun h => h) fun h => ?_
    rw [State.widthsOk_iff] at *
    exact ⟨h.1, fun h' => absurd h' he⟩

/-! ### Well-formedness of the stack operations -/

theorem push8_keepsInv (v : Byte) (s : State) : (push8 v s).All (KeepsInv s) :=
  (memWrite_keepsInv _ v s).bind_keepsInv fun _ t => State.setS_keepsInv t _

theorem pop8_keepsInv (s : State) : (pop8 s).All (KeepsInv s) :=
  (memRead_keepsInv _ _).mono fun _ h => (State.setS_keepsInv s _).trans h

theorem push16_keepsInv (v : Word) (s : State) : (push16 v s).All (KeepsInv s) :=
  (push8_keepsInv _ s).bind_keepsInv fun _ t => push8_keepsInv _ t

theorem pop16_keepsInv (s : State) : (pop16 s).All (KeepsInv s) :=
  (pop8_keepsInv s).bind_keepsInv fun _ t => (pop8_keepsInv t).bind_keepsInv fun _ u => KeepsInv.refl u

theorem pushAt_keepsInv (w : Width) (v : Word) (s : State) : (pushAt w v s).All (KeepsInv s) := by
  cases w with
  | w8 => exact push8_keepsInv _ s
  | w16 => exact push16_keepsInv _ s

theorem popAt_keepsInv (w : Width) (s : State) : (popAt w s).All (KeepsInv s) := by
  cases w with
  | w8 => exact (pop8_keepsInv s).bind_keepsInv fun _ t => KeepsInv.refl t
  | w16 => exact pop16_keepsInv s

/-! ### Exceptions -/

/-- `t` is `s` but for S, the latch, the memories, P, K and PC: all that taking an exception can change. -/
def TrapOnly (s t : State) : Prop :=
  t = { s with sp := t.sp, mdr := t.mdr, wram := t.wram, cells := t.cells, cart := t.cart, p := t.p, k := t.k, pc := t.pc }

theorem StackOnly.trapOnly {s t : State} (h : StackOnly s t) : TrapOnly s t := by
  unfold StackOnly at h
  unfold TrapOnly
  rw [h]

theorem TrapOnly.trans {s t u : State} (h1 : TrapOnly s t) (h2 : TrapOnly t u) : TrapOnly s u := by
  unfold TrapOnly at *
  rw [h2, h1]

theorem State.vectorTo_trapOnly (s : State) (k : IntKind) : TrapOnly s (s.vectorTo k) := rfl

/-- The pushes of an entry (R421). -/
theorem enter_pushes (s : State) : (if s.e then Res.ok () s else push8 s.k s).All (StackOnly s) := by
  split
  · exact StackOnly.refl s
  · exact push8_stackOnly _ s

theorem enter_trapOnly (k : IntKind) (s : State) : (enter k s).All (TrapOnly s) := by
  unfold enter
  refine (enter_pushes s).bind (fun _ h => h.trapOnly) fun _ s1 h1 => ?_
  refine (push16_stackOnly _ s1).bind (fun _ h => (h1.trans h).trapOnly) fun _ s2 h2 => ?_
  refine (push8_stackOnly _ s2).bind (fun _ h => ((h1.trans h2).trans h).trapOnly) fun _ s3 h3 => ?_
  exact ((h1.trans h2).trans h3).trapOnly.trans (State.vectorTo_trapOnly s3 k)

/-- What a completed entry leaves in P, K, PC and E (R421). -/
theorem enter_ok {k : IntKind} {s t : State} (h : enter k s = .ok () t) :
    t.p = { s.p with i := true, d := false } ∧ t.k = 0x00 ∧ t.pc = s.vt.vector k s.e ∧ t.e = s.e := by
  unfold enter at h
  obtain ⟨_, s1, h1, h⟩ := Res.bind_eq_ok.1 h
  obtain ⟨_, s2, h2, h⟩ := Res.bind_eq_ok.1 h
  obtain ⟨_, s3, h3, h⟩ := Res.bind_eq_ok.1 h
  cases h
  have g := (((enter_pushes s).of_ok h1).trans ((push16_stackOnly _ s1).of_ok h2)).trans ((push8_stackOnly _ s2).of_ok h3)
  exact ⟨by simp [State.vectorTo, g.p_eq], rfl, by simp [State.vectorTo, g.vt_eq, g.e_eq], g.e_eq⟩

theorem State.vectorTo_keepsInv (s : State) (k : IntKind) : KeepsInv s (s.vectorTo k) :=
  State.withFlags_keepsInv s { s.p with i := true, d := false } rfl rfl

theorem enter_keepsInv (k : IntKind) (s : State) : (enter k s).All (KeepsInv s) := by
  unfold enter
  refine Res.All.bind_keepsInv ?_ fun _ s1 => (push16_keepsInv _ s1).bind_keepsInv fun _ s2 =>
    (push8_keepsInv _ s2).bind_keepsInv fun _ s3 => State.vectorTo_keepsInv s3 k
  split
  · exact KeepsInv.refl s
  · exact push8_keepsInv _ s

theorem returnFromInterrupt_keepsInv (s : State) : (returnFromInterrupt s).All (KeepsInv s) := by
  unfold returnFromInterrupt
  refine (pop8_keepsInv s).bind_keepsInv fun p s1 => ?_
  refine Res.All.bind_keepsInv ((pop16_keepsInv _).mono fun _ h => (State.writeP_keepsInv s1 p).trans h) fun pc s2 => ?_
  dsimp only
  split
  · exact fun h => h
  · exact Res.All.bind_keepsInv ((pop8_keepsInv _).mono fun _ h => KeepsInv.trans (t := { s2 with pc := pc }) (fun h => h) h)
      fun _ _ h => h

theorem State.resetState_widthsOk (s : State) (dr : ResetDraw) : (s.resetState dr).widthsOk = true := by
  rw [State.widthsOk_iff]
  simp [State.resetState]

theorem State.resetFree_keepsInv (s : State) : KeepsInv s s.resetFree :=
  keepsInv_of (fun h => h) fun _ => State.resetState_widthsOk s _

theorem dispatch_keepsInv (k : IntKind) (s : State) : (dispatch k s).All (KeepsInv s) := by
  unfold dispatch
  cases k
  case reset => exact KeepsInv.trans (t := { s.noteOpAddr with pending := none, waiting := false }) (fun h => h)
                  (State.resetFree_keepsInv _)
  all_goals exact (enter_keepsInv _ _).mono fun _ h => KeepsInv.trans (fun h => h) h

end Sys2Proof.Machine
end

