-- ==== Sys2Proof/Laws/Instructions.lean ====
section
/-! SUPPORT. The shared operations behind the instructions, and the fetch, keep the state well-formed; and what the fetch can
change. -/

namespace Sys2Proof.Machine

/-- The end of a step keeps the state well-formed where its operation does: recording a fault changes nothing else. -/
theorem finish_keepsInv {r : Res Unit} {s t : State} (hr : r.All (KeepsInv s)) (h : finish r = .next t) : KeepsInv s t := by
  rcases finish_eq_next.1 h with hk | ⟨f, u, hk, rfl⟩
  · exact hr.of_ok hk
  · rw [hk] at hr
    exact fun hs => hr hs

/-! ### Loads, stores, transfers, block moves -/

theorem loadA_keepsInv (op : Operand) (s : State) : (loadA op s).All (KeepsInv s) :=
  (getValue_readOnly op _ s).keepsInv_of_readOnly.bind_keepsInv fun v t =>
    (State.setA_keepsInv t v).trans (State.setNZ_keepsInv _ _ _)

theorem loadX_keepsInv (op : Operand) (s : State) : (loadX op s).All (KeepsInv s) :=
  (getValue_readOnly op _ s).keepsInv_of_readOnly.bind_keepsInv fun v t =>
    (State.setX_keepsInv t v).trans (State.setNZ_keepsInv _ _ _)

theorem loadY_keepsInv (op : Operand) (s : State) : (loadY op s).All (KeepsInv s) :=
  (getValue_readOnly op _ s).keepsInv_of_readOnly.bind_keepsInv fun v t =>
    (State.setY_keepsInv t v).trans (State.setNZ_keepsInv _ _ _)

theorem storeTo_keepsInv (mode : MemMode) (w : Width) (v : State → Word) (s : State) :
    (storeTo mode w v s).All (KeepsInv s) :=
  (getAddress_readOnly mode s).keepsInv_of_readOnly.bind_keepsInv fun ea t => writeN_keepsInv ea _ _ t

theorem State.transferToA_keepsInv (s : State) (v : Word) : KeepsInv s (s.transferToA v) :=
  (State.setA_keepsInv s v).trans (State.setNZ_keepsInv _ _ _)

theorem State.transferToX_keepsInv (s : State) (v : Word) : KeepsInv s (s.transferToX v) :=
  (State.setX_keepsInv s v).trans (State.setNZ_keepsInv _ _ _)

theorem State.transferToY_keepsInv (s : State) (v : Word) : KeepsInv s (s.transferToY v) :=
  (State.setY_keepsInv s v).trans (State.setNZ_keepsInv _ _ _)

theorem State.transferToC16_keepsInv (s : State) (v : Word) : KeepsInv s (s.transferToC16 v) :=
  KeepsInv.trans (t := { s with a := v }) (fun h => h) (State.setNZ_keepsInv _ _ _)

theorem blockMoveByte_keepsInv (delta : Word) (dbk sbk : Byte) (s : State) :
    (blockMoveByte delta dbk sbk s).All (KeepsInv s) :=
  (memRead_keepsInv _ s).bind_keepsInv fun _ t => (memWrite_keepsInv _ _ t).bind_keepsInv fun _ u =>
    ((State.setX_keepsInv u _).trans (State.setY_keepsInv _ _)).trans fun h => h

theorem blockMoveBytes_keepsInv (delta : Word) (dbk sbk : Byte) :
    ∀ (n : Nat) (s : State), (blockMoveBytes delta dbk sbk n s).All (KeepsInv s)
  | 0, s => blockMoveByte_keepsInv delta dbk sbk s
  | n + 1, s => (blockMoveByte_keepsInv delta dbk sbk s).bind_keepsInv fun _ t => blockMoveBytes_keepsInv delta dbk sbk n t

theorem blockMove_keepsInv (delta : Word) (dbk sbk : Byte) (s : State) : (blockMove delta dbk sbk s).All (KeepsInv s) :=
  (blockMoveBytes_keepsInv delta dbk sbk _ _).mono fun _ h => KeepsInv.trans (t := { s with dbr := dbk }) (fun h => h) h

/-! ### Arithmetic, logic, shifts -/

theorem binaryOnly_keepsInv (opcode : Byte) (s : State) {body : Res Unit} (h : body.All (KeepsInv s)) :
    (binaryOnly opcode s body).All (KeepsInv s) := by
  unfold binaryOnly
  split
  · exact KeepsInv.refl s
  · exact h

theorem State.setAlu_keepsInv (s : State) (r : AluResult) : KeepsInv s (s.setAlu r) :=
  (State.setA_keepsInv s r.value).trans (State.withFlags_keepsInv _ _ rfl rfl)

theorem addA_keepsInv (opcode : Byte) (op : Operand) (s : State) : (addA opcode op s).All (KeepsInv s) :=
  binaryOnly_keepsInv _ s ((getValue_readOnly op _ s).keepsInv_of_readOnly.bind_keepsInv fun _ t => State.setAlu_keepsInv t _)

theorem subA_keepsInv (opcode : Byte) (op : Operand) (s : State) : (subA opcode op s).All (KeepsInv s) :=
  binaryOnly_keepsInv _ s ((getValue_readOnly op _ s).keepsInv_of_readOnly.bind_keepsInv fun _ t => State.setAlu_keepsInv t _)

theorem compareA_keepsInv (op : Operand) (s : State) : (compareA op s).All (KeepsInv s) :=
  (getValue_readOnly op _ s).keepsInv_of_readOnly.bind_keepsInv fun _ t => State.withFlags_keepsInv t _ rfl rfl

theorem compareX_keepsInv (op : Operand) (s : State) : (compareX op s).All (KeepsInv s) :=
  (getValue_readOnly op _ s).keepsInv_of_readOnly.bind_keepsInv fun _ t => State.withFlags_keepsInv t _ rfl rfl

theorem compareY_keepsInv (op : Operand) (s : State) : (compareY op s).All (KeepsInv s) :=
  (getValue_readOnly op _ s).keepsInv_of_readOnly.bind_keepsInv fun _ t => State.withFlags_keepsInv t _ rfl rfl

theorem logicA_keepsInv (f : Word → Word → Word) (op : Operand) (s : State) : (logicA f op s).All (KeepsInv s) :=
  (getValue_readOnly op _ s).keepsInv_of_readOnly.bind_keepsInv fun _ t =>
    (State.setA_keepsInv t _).trans (State.setNZ_keepsInv _ _ _)

theorem bitImmediate_keepsInv (v : Imm) (s : State) : (bitImmediate v s).All (KeepsInv s) :=
  (getValue_readOnly (.imm v) _ s).keepsInv_of_readOnly.bind_keepsInv fun _ t => State.withFlags_keepsInv t _ rfl rfl

theorem bitMemory_keepsInv (mode : MemMode) (s : State) : (bitMemory mode s).All (KeepsInv s) :=
  (getValue_readOnly (.mem mode) _ s).keepsInv_of_readOnly.bind_keepsInv fun m t =>
    KeepsInv.trans (t := t.testZ m) (State.withFlags_keepsInv t _ rfl rfl) (State.withFlags_keepsInv _ _ rfl rfl)

theorem State.stepX_keepsInv (s : State) (delta : Word) : KeepsInv s (s.stepX delta) :=
  (State.setX_keepsInv s _).trans (State.setNZ_keepsInv _ _ _)

theorem State.stepY_keepsInv (s : State) (delta : Word) : KeepsInv s (s.stepY delta) :=
  (State.setY_keepsInv s _).trans (State.setNZ_keepsInv _ _ _)

theorem readModifyWrite_keepsInv (dst : Dest) (w : Width) {pre : Word → State → State} {new : Word → State → Word}
    {post : Word → State → State} (hpre : ∀ v t, KeepsInv t (pre v t)) (hpost : ∀ v t, KeepsInv t (post v t)) (s : State) :
    (readModifyWrite dst w pre new post s).All (KeepsInv s) := by
  cases dst with
  | acc => exact ((hpre _ s).trans (State.setA_keepsInv _ _)).trans (hpost _ _)
  | mem mode =>
    refine (getAddress_readOnly mode s).keepsInv_of_readOnly.bind_keepsInv fun ea s1 => ?_
    refine (readAt_readOnly ea w s1).keepsInv_of_readOnly.bind_keepsInv fun v s2 => ?_
    exact Res.All.bind_keepsInv ((writeN_keepsInv ea _ _ _).mono fun _ h => (hpre v s2).trans h) fun _ s3 => hpost _ s3

theorem increment_keepsInv (dst : Dest) (s : State) : (increment dst s).All (KeepsInv s) := by
  unfold increment modifyNZ
  apply readModifyWrite_keepsInv
  · intro v t
    exact KeepsInv.refl t
  · intro v t
    exact State.setNZ_keepsInv t _ _

theorem decrement_keepsInv (dst : Dest) (s : State) : (decrement dst s).All (KeepsInv s) := by
  unfold decrement modifyNZ
  apply readModifyWrite_keepsInv
  · intro v t
    exact KeepsInv.refl t
  · intro v t
    exact State.setNZ_keepsInv t _ _

theorem testAndModify_keepsInv (f : Word → Word → Word) (mode : MemMode) (s : State) :
    (testAndModify f mode s).All (KeepsInv s) := by
  unfold testAndModify
  apply readModifyWrite_keepsInv
  · intro v t
    exact State.withFlags_keepsInv t { t.p with z := t.getA &&& v == 0 } rfl rfl
  · intro v t
    exact KeepsInv.refl t

theorem shiftLeftBy_keepsInv (cin : State → Bool) (dst : Dest) (s : State) : (shiftLeftBy cin dst s).All (KeepsInv s) := by
  unfold shiftLeftBy
  apply readModifyWrite_keepsInv
  · intro v t
    exact State.withFlags_keepsInv t { t.p with c := signBit s.wM v } rfl rfl
  · intro v t
    exact State.setNZ_keepsInv t _ _

theorem shiftRightBy_keepsInv (cin : State → Bool) (dst : Dest) (s : State) : (shiftRightBy cin dst s).All (KeepsInv s) := by
  unfold shiftRightBy
  apply readModifyWrite_keepsInv
  · intro v t
    exact State.withFlags_keepsInv t { t.p with c := v.getLsbD 0 } rfl rfl
  · intro v t
    exact State.setNZ_keepsInv t _ _

/-! ### Control transfer and stack -/

theorem absIndTarget_readOnly (a16 : Word) (s : State) : (absIndTarget a16 s).All (ReadOnly s) := readWord_readOnly _ s

theorem absIndXTarget_readOnly (a16 : Word) (s : State) : (absIndXTarget a16 s).All (ReadOnly s) := readWord_readOnly _ s

theorem absIndLTarget_readOnly (a16 : Word) (s : State) : (absIndLTarget a16 s).All (ReadOnly s) := readN_readOnly _ 3 s

theorem callIndexed_keepsInv (a16 : Word) (s : State) : (callIndexed a16 s).All (KeepsInv s) :=
  (push16_keepsInv _ s).bind_keepsInv fun _ t =>
    (absIndXTarget_readOnly a16 t).keepsInv_of_readOnly.bind_keepsInv fun _ _ h => h

theorem callLong_keepsInv (a24 : Addr) (s : State) : (callLong a24 s).All (KeepsInv s) :=
  (push8_keepsInv _ s).bind_keepsInv fun _ t => (push16_keepsInv _ t).bind_keepsInv fun _ _ h => h

theorem returnLong_keepsInv (s : State) : (returnLong s).All (KeepsInv s) :=
  (pop16_keepsInv s).bind_keepsInv fun _ t => (pop8_keepsInv t).bind_keepsInv fun _ _ h => h

theorem pullA_keepsInv (s : State) : (pullA s).All (KeepsInv s) :=
  (popAt_keepsInv _ s).bind_keepsInv fun v t => (State.setA_keepsInv t v).trans (State.setNZ_keepsInv _ _ _)

theorem pullX_keepsInv (s : State) : (pullX s).All (KeepsInv s) :=
  (popAt_keepsInv _ s).bind_keepsInv fun v t => (State.setX_keepsInv t v).trans (State.setNZ_keepsInv _ _ _)

theorem pullY_keepsInv (s : State) : (pullY s).All (KeepsInv s) :=
  (popAt_keepsInv _ s).bind_keepsInv fun v t => (State.setY_keepsInv t v).trans (State.setNZ_keepsInv _ _ _)

theorem pullDbr_keepsInv (s : State) : (pullDbr s).All (KeepsInv s) :=
  (pop8_keepsInv s).bind_keepsInv fun v t =>
    KeepsInv.trans (t := { t with dbr := v }) (fun h => h) (State.setNZ_keepsInv _ _ _)

theorem pullD_keepsInv (s : State) : (pullD s).All (KeepsInv s) :=
  (pop16_keepsInv s).bind_keepsInv fun v t =>
    KeepsInv.trans (t := { t with d := v }) (fun h => h) (State.setNZ_keepsInv _ _ _)

theorem pushIndirect_keepsInv (o : Byte) (s : State) : (pushIndirect o s).All (KeepsInv s) :=
  (readWord_readOnly _ s).keepsInv_of_readOnly.bind_keepsInv fun _ t => push16_keepsInv _ t

/-! ### The fetch -/

/-- `t` is `s` but for PC, the noted opcode address, the latch and the cartridge's inner state: all that a fetch can change. -/
def FetchOnly (s t : State) : Prop :=
  t = { s with pc := t.pc, opAddr := t.opAddr, mdr := t.mdr, cart := { s.cart with inner := t.cart.inner } }

theorem FetchOnly.refl (s : State) : FetchOnly s s := rfl

theorem FetchOnly.trans {s t u : State} (h1 : FetchOnly s t) (h2 : FetchOnly t u) : FetchOnly s u := by
  unfold FetchOnly at *
  rw [h2, h1]

theorem FetchOnly.keepsInv {s t : State} (h : FetchOnly s t) : KeepsInv s t := by
  intro hs
  rw [h]
  exact hs

theorem ReadOnly.fetchOnly {s t : State} (h : ReadOnly s t) : FetchOnly s t := by
  unfold ReadOnly at h
  unfold FetchOnly
  rw [h]

theorem Res.All.bind_fetchOnly {α β : Type} {r : Res α} {f : α → State → Res β} {s : State}
    (hr : r.All (FetchOnly s)) (hf : ∀ v t, (f v t).All (FetchOnly t)) : (r.bind f).All (FetchOnly s) :=
  hr.bind (fun _ h => h) fun v t h => (hf v t).mono fun _ h' => h.trans h'

theorem fetchByte_fetchOnly (s : State) : (fetchByte s).All (FetchOnly s) :=
  ((memRead_readOnly _ s).mono fun _ h => h.fetchOnly).bind_fetchOnly fun _ _ => rfl

theorem fetchBytes_fetchOnly : ∀ (n : Nat) (s : State), (fetchBytes n s).All (FetchOnly s)
  | 0, s => FetchOnly.refl s
  | n + 1, s => (fetchByte_fetchOnly s).bind_fetchOnly fun _ t =>
      (fetchBytes_fetchOnly n t).bind_fetchOnly fun _ u => FetchOnly.refl u

theorem fetchInstr_fetchOnly (s : State) : (fetchInstr s).All (FetchOnly s) := by
  unfold fetchInstr
  refine Res.All.bind_fetchOnly
    ((fetchByte_fetchOnly _).mono fun _ h => FetchOnly.trans (t := s.noteOpAddr) rfl h) fun op s1 => ?_
  cases opcodeEntry op with
  | none => exact FetchOnly.refl s1
  | some en =>
    refine (fetchBytes_fetchOnly _ s1).bind_fetchOnly fun bs s2 => ?_
    cases decode s1.p.m s1.p.x (op :: bs) with
    | error e => exact FetchOnly.refl s2
    | ok r => exact FetchOnly.refl s2

end Sys2Proof.Machine
end

