-- ==== Sys2Proof/Laws/PerInstr.lean ====
section
/-! SUPPORT. The per-instruction family EncodingLength: the decoder's table entry of an instruction's opcode takes as many operand
bytes as the instruction's encoding has after its opcode (R123, R124, R126), which is what the fetch reads. -/

namespace Sys2Proof.Laws.EncodingLength

/-- The encoding starts with an opcode whose table entry takes exactly the operand bytes that follow it. -/
def Statement (i : Instr) : Prop :=
  ∃ op en, (encode i).head? = some op ∧ opcodeEntry op = some en ∧
    ∀ m x, i.wellFormed m x = true → (encode i).length = 1 + en.operandCount m x

/-- An immediate of the width a flag selects has that many bytes. -/
theorem imm_enc_length (v : Imm) (flag : Bool) (h : decide (v.width = widthOf flag) = true) :
    v.enc.length = (widthOf flag).bytes := by
  rw [← of_decide_eq_true h]
  cases v <;> rfl

theorem ldaDpIndX (o : Byte) : Statement (.ldaDpIndX o) := ⟨_, _, rfl, rfl, fun _ _ _ => rfl⟩
theorem ldaSr (o : Byte) : Statement (.ldaSr o) := ⟨_, _, rfl, rfl, fun _ _ _ => rfl⟩
theorem ldaDp (o : Byte) : Statement (.ldaDp o) := ⟨_, _, rfl, rfl, fun _ _ _ => rfl⟩
theorem ldaDpIndL (o : Byte) : Statement (.ldaDpIndL o) := ⟨_, _, rfl, rfl, fun _ _ _ => rfl⟩
theorem ldaImmM (v : Imm) : Statement (.ldaImmM v) := ⟨_, _, rfl, rfl, fun m _ h => (Nat.add_comm _ 1).trans (congrArg (1 + ·) (imm_enc_length v m h))⟩
theorem ldaAbs (a16 : Word) : Statement (.ldaAbs a16) := ⟨_, _, rfl, rfl, fun _ _ _ => rfl⟩
theorem ldaLong (a24 : Addr) : Statement (.ldaLong a24) := ⟨_, _, rfl, rfl, fun _ _ _ => rfl⟩
theorem ldaDpIndY (o : Byte) : Statement (.ldaDpIndY o) := ⟨_, _, rfl, rfl, fun _ _ _ => rfl⟩
theorem ldaDpInd (o : Byte) : Statement (.ldaDpInd o) := ⟨_, _, rfl, rfl, fun _ _ _ => rfl⟩
theorem ldaSrIndY (o : Byte) : Statement (.ldaSrIndY o) := ⟨_, _, rfl, rfl, fun _ _ _ => rfl⟩
theorem ldaDpX (o : Byte) : Statement (.ldaDpX o) := ⟨_, _, rfl, rfl, fun _ _ _ => rfl⟩
theorem ldaDpIndLY (o : Byte) : Statement (.ldaDpIndLY o) := ⟨_, _, rfl, rfl, fun _ _ _ => rfl⟩
theorem ldaAbsY (a16 : Word) : Statement (.ldaAbsY a16) := ⟨_, _, rfl, rfl, fun _ _ _ => rfl⟩
theorem ldaAbsX (a16 : Word) : Statement (.ldaAbsX a16) := ⟨_, _, rfl, rfl, fun _ _ _ => rfl⟩
theorem ldaLongX (a24 : Addr) : Statement (.ldaLongX a24) := ⟨_, _, rfl, rfl, fun _ _ _ => rfl⟩
theorem ldxImmX (v : Imm) : Statement (.ldxImmX v) := ⟨_, _, rfl, rfl, fun _ x h => (Nat.add_comm _ 1).trans (congrArg (1 + ·) (imm_enc_length v x h))⟩
theorem ldxDp (o : Byte) : Statement (.ldxDp o) := ⟨_, _, rfl, rfl, fun _ _ _ => rfl⟩
theorem ldxAbs (a16 : Word) : Statement (.ldxAbs a16) := ⟨_, _, rfl, rfl, fun _ _ _ => rfl⟩
theorem ldxDpY (o : Byte) : Statement (.ldxDpY o) := ⟨_, _, rfl, rfl, fun _ _ _ => rfl⟩
theorem ldxAbsY (a16 : Word) : Statement (.ldxAbsY a16) := ⟨_, _, rfl, rfl, fun _ _ _ => rfl⟩
theorem ldyImmX (v : Imm) : Statement (.ldyImmX v) := ⟨_, _, rfl, rfl, fun _ x h => (Nat.add_comm _ 1).trans (congrArg (1 + ·) (imm_enc_length v x h))⟩
theorem ldyDp (o : Byte) : Statement (.ldyDp o) := ⟨_, _, rfl, rfl, fun _ _ _ => rfl⟩
theorem ldyAbs (a16 : Word) : Statement (.ldyAbs a16) := ⟨_, _, rfl, rfl, fun _ _ _ => rfl⟩
theorem ldyDpX (o : Byte) : Statement (.ldyDpX o) := ⟨_, _, rfl, rfl, fun _ _ _ => rfl⟩
theorem ldyAbsX (a16 : Word) : Statement (.ldyAbsX a16) := ⟨_, _, rfl, rfl, fun _ _ _ => rfl⟩
theorem staDpIndX (o : Byte) : Statement (.staDpIndX o) := ⟨_, _, rfl, rfl, fun _ _ _ => rfl⟩
theorem staSr (o : Byte) : Statement (.staSr o) := ⟨_, _, rfl, rfl, fun _ _ _ => rfl⟩
theorem staDp (o : Byte) : Statement (.staDp o) := ⟨_, _, rfl, rfl, fun _ _ _ => rfl⟩
theorem staDpIndL (o : Byte) : Statement (.staDpIndL o) := ⟨_, _, rfl, rfl, fun _ _ _ => rfl⟩
theorem staAbs (a16 : Word) : Statement (.staAbs a16) := ⟨_, _, rfl, rfl, fun _ _ _ => rfl⟩
theorem staLong (a24 : Addr) : Statement (.staLong a24) := ⟨_, _, rfl, rfl, fun _ _ _ => rfl⟩
theorem staDpIndY (o : Byte) : Statement (.staDpIndY o) := ⟨_, _, rfl, rfl, fun _ _ _ => rfl⟩
theorem staDpInd (o : Byte) : Statement (.staDpInd o) := ⟨_, _, rfl, rfl, fun _ _ _ => rfl⟩
theorem staSrIndY (o : Byte) : Statement (.staSrIndY o) := ⟨_, _, rfl, rfl, fun _ _ _ => rfl⟩
theorem staDpX (o : Byte) : Statement (.staDpX o) := ⟨_, _, rfl, rfl, fun _ _ _ => rfl⟩
theorem staDpIndLY (o : Byte) : Statement (.staDpIndLY o) := ⟨_, _, rfl, rfl, fun _ _ _ => rfl⟩
theorem staAbsY (a16 : Word) : Statement (.staAbsY a16) := ⟨_, _, rfl, rfl, fun _ _ _ => rfl⟩
theorem staAbsX (a16 : Word) : Statement (.staAbsX a16) := ⟨_, _, rfl, rfl, fun _ _ _ => rfl⟩
theorem staLongX (a24 : Addr) : Statement (.staLongX a24) := ⟨_, _, rfl, rfl, fun _ _ _ => rfl⟩
theorem stxDp (o : Byte) : Statement (.stxDp o) := ⟨_, _, rfl, rfl, fun _ _ _ => rfl⟩
theorem stxAbs (a16 : Word) : Statement (.stxAbs a16) := ⟨_, _, rfl, rfl, fun _ _ _ => rfl⟩
theorem stxDpY (o : Byte) : Statement (.stxDpY o) := ⟨_, _, rfl, rfl, fun _ _ _ => rfl⟩
theorem styDp (o : Byte) : Statement (.styDp o) := ⟨_, _, rfl, rfl, fun _ _ _ => rfl⟩
theorem styAbs (a16 : Word) : Statement (.styAbs a16) := ⟨_, _, rfl, rfl, fun _ _ _ => rfl⟩
theorem styDpX (o : Byte) : Statement (.styDpX o) := ⟨_, _, rfl, rfl, fun _ _ _ => rfl⟩
theorem stzDp (o : Byte) : Statement (.stzDp o) := ⟨_, _, rfl, rfl, fun _ _ _ => rfl⟩
theorem stzDpX (o : Byte) : Statement (.stzDpX o) := ⟨_, _, rfl, rfl, fun _ _ _ => rfl⟩
theorem stzAbs (a16 : Word) : Statement (.stzAbs a16) := ⟨_, _, rfl, rfl, fun _ _ _ => rfl⟩
theorem stzAbsX (a16 : Word) : Statement (.stzAbsX a16) := ⟨_, _, rfl, rfl, fun _ _ _ => rfl⟩
theorem tax : Statement .tax := ⟨_, _, rfl, rfl, fun _ _ _ => rfl⟩
theorem tay : Statement .tay := ⟨_, _, rfl, rfl, fun _ _ _ => rfl⟩
theorem txa : Statement .txa := ⟨_, _, rfl, rfl, fun _ _ _ => rfl⟩
theorem tya : Statement .tya := ⟨_, _, rfl, rfl, fun _ _ _ => rfl⟩
theorem txy : Statement .txy := ⟨_, _, rfl, rfl, fun _ _ _ => rfl⟩
theorem tyx : Statement .tyx := ⟨_, _, rfl, rfl, fun _ _ _ => rfl⟩
theorem tsx : Statement .tsx := ⟨_, _, rfl, rfl, fun _ _ _ => rfl⟩
theorem txs : Statement .txs := ⟨_, _, rfl, rfl, fun _ _ _ => rfl⟩
theorem tcs : Statement .tcs := ⟨_, _, rfl, rfl, fun _ _ _ => rfl⟩
theorem tsc : Statement .tsc := ⟨_, _, rfl, rfl, fun _ _ _ => rfl⟩
theorem tcd : Statement .tcd := ⟨_, _, rfl, rfl, fun _ _ _ => rfl⟩
theorem tdc : Statement .tdc := ⟨_, _, rfl, rfl, fun _ _ _ => rfl⟩
theorem xba : Statement .xba := ⟨_, _, rfl, rfl, fun _ _ _ => rfl⟩
theorem mvn (dbk : Byte) (sbk : Byte) : Statement (.mvn dbk sbk) := ⟨_, _, rfl, rfl, fun _ _ _ => rfl⟩
theorem mvp (dbk : Byte) (sbk : Byte) : Statement (.mvp dbk sbk) := ⟨_, _, rfl, rfl, fun _ _ _ => rfl⟩
theorem adcDpIndX (o : Byte) : Statement (.adcDpIndX o) := ⟨_, _, rfl, rfl, fun _ _ _ => rfl⟩
theorem adcSr (o : Byte) : Statement (.adcSr o) := ⟨_, _, rfl, rfl, fun _ _ _ => rfl⟩
theorem adcDp (o : Byte) : Statement (.adcDp o) := ⟨_, _, rfl, rfl, fun _ _ _ => rfl⟩
theorem adcDpIndL (o : Byte) : Statement (.adcDpIndL o) := ⟨_, _, rfl, rfl, fun _ _ _ => rfl⟩
theorem adcImmM (v : Imm) : Statement (.adcImmM v) := ⟨_, _, rfl, rfl, fun m _ h => (Nat.add_comm _ 1).trans (congrArg (1 + ·) (imm_enc_length v m h))⟩
theorem adcAbs (a16 : Word) : Statement (.adcAbs a16) := ⟨_, _, rfl, rfl, fun _ _ _ => rfl⟩
theorem adcLong (a24 : Addr) : Statement (.adcLong a24) := ⟨_, _, rfl, rfl, fun _ _ _ => rfl⟩
theorem adcDpIndY (o : Byte) : Statement (.adcDpIndY o) := ⟨_, _, rfl, rfl, fun _ _ _ => rfl⟩
theorem adcDpInd (o : Byte) : Statement (.adcDpInd o) := ⟨_, _, rfl, rfl, fun _ _ _ => rfl⟩
theorem adcSrIndY (o : Byte) : Statement (.adcSrIndY o) := ⟨_, _, rfl, rfl, fun _ _ _ => rfl⟩
theorem adcDpX (o : Byte) : Statement (.adcDpX o) := ⟨_, _, rfl, rfl, fun _ _ _ => rfl⟩
theorem adcDpIndLY (o : Byte) : Statement (.adcDpIndLY o) := ⟨_, _, rfl, rfl, fun _ _ _ => rfl⟩
theorem adcAbsY (a16 : Word) : Statement (.adcAbsY a16) := ⟨_, _, rfl, rfl, fun _ _ _ => rfl⟩
theorem adcAbsX (a16 : Word) : Statement (.adcAbsX a16) := ⟨_, _, rfl, rfl, fun _ _ _ => rfl⟩
theorem adcLongX (a24 : Addr) : Statement (.adcLongX a24) := ⟨_, _, rfl, rfl, fun _ _ _ => rfl⟩
theorem sbcDpIndX (o : Byte) : Statement (.sbcDpIndX o) := ⟨_, _, rfl, rfl, fun _ _ _ => rfl⟩
theorem sbcSr (o : Byte) : Statement (.sbcSr o) := ⟨_, _, rfl, rfl, fun _ _ _ => rfl⟩
theorem sbcDp (o : Byte) : Statement (.sbcDp o) := ⟨_, _, rfl, rfl, fun _ _ _ => rfl⟩
theorem sbcDpIndL (o : Byte) : Statement (.sbcDpIndL o) := ⟨_, _, rfl, rfl, fun _ _ _ => rfl⟩
theorem sbcImmM (v : Imm) : Statement (.sbcImmM v) := ⟨_, _, rfl, rfl, fun m _ h => (Nat.add_comm _ 1).trans (congrArg (1 + ·) (imm_enc_length v m h))⟩
theorem sbcAbs (a16 : Word) : Statement (.sbcAbs a16) := ⟨_, _, rfl, rfl, fun _ _ _ => rfl⟩
theorem sbcLong (a24 : Addr) : Statement (.sbcLong a24) := ⟨_, _, rfl, rfl, fun _ _ _ => rfl⟩
theorem sbcDpIndY (o : Byte) : Statement (.sbcDpIndY o) := ⟨_, _, rfl, rfl, fun _ _ _ => rfl⟩
theorem sbcDpInd (o : Byte) : Statement (.sbcDpInd o) := ⟨_, _, rfl, rfl, fun _ _ _ => rfl⟩
theorem sbcSrIndY (o : Byte) : Statement (.sbcSrIndY o) := ⟨_, _, rfl, rfl, fun _ _ _ => rfl⟩
theorem sbcDpX (o : Byte) : Statement (.sbcDpX o) := ⟨_, _, rfl, rfl, fun _ _ _ => rfl⟩
theorem sbcDpIndLY (o : Byte) : Statement (.sbcDpIndLY o) := ⟨_, _, rfl, rfl, fun _ _ _ => rfl⟩
theorem sbcAbsY (a16 : Word) : Statement (.sbcAbsY a16) := ⟨_, _, rfl, rfl, fun _ _ _ => rfl⟩
theorem sbcAbsX (a16 : Word) : Statement (.sbcAbsX a16) := ⟨_, _, rfl, rfl, fun _ _ _ => rfl⟩
theorem sbcLongX (a24 : Addr) : Statement (.sbcLongX a24) := ⟨_, _, rfl, rfl, fun _ _ _ => rfl⟩
theorem cmpDpIndX (o : Byte) : Statement (.cmpDpIndX o) := ⟨_, _, rfl, rfl, fun _ _ _ => rfl⟩
theorem cmpSr (o : Byte) : Statement (.cmpSr o) := ⟨_, _, rfl, rfl, fun _ _ _ => rfl⟩
theorem cmpDp (o : Byte) : Statement (.cmpDp o) := ⟨_, _, rfl, rfl, fun _ _ _ => rfl⟩
theorem cmpDpIndL (o : Byte) : Statement (.cmpDpIndL o) := ⟨_, _, rfl, rfl, fun _ _ _ => rfl⟩
theorem cmpImmM (v : Imm) : Statement (.cmpImmM v) := ⟨_, _, rfl, rfl, fun m _ h => (Nat.add_comm _ 1).trans (congrArg (1 + ·) (imm_enc_length v m h))⟩
theorem cmpAbs (a16 : Word) : Statement (.cmpAbs a16) := ⟨_, _, rfl, rfl, fun _ _ _ => rfl⟩
theorem cmpLong (a24 : Addr) : Statement (.cmpLong a24) := ⟨_, _, rfl, rfl, fun _ _ _ => rfl⟩
theorem cmpDpIndY (o : Byte) : Statement (.cmpDpIndY o) := ⟨_, _, rfl, rfl, fun _ _ _ => rfl⟩
theorem cmpDpInd (o : Byte) : Statement (.cmpDpInd o) := ⟨_, _, rfl, rfl, fun _ _ _ => rfl⟩
theorem cmpSrIndY (o : Byte) : Statement (.cmpSrIndY o) := ⟨_, _, rfl, rfl, fun _ _ _ => rfl⟩
theorem cmpDpX (o : Byte) : Statement (.cmpDpX o) := ⟨_, _, rfl, rfl, fun _ _ _ => rfl⟩
theorem cmpDpIndLY (o : Byte) : Statement (.cmpDpIndLY o) := ⟨_, _, rfl, rfl, fun _ _ _ => rfl⟩
theorem cmpAbsY (a16 : Word) : Statement (.cmpAbsY a16) := ⟨_, _, rfl, rfl, fun _ _ _ => rfl⟩
theorem cmpAbsX (a16 : Word) : Statement (.cmpAbsX a16) := ⟨_, _, rfl, rfl, fun _ _ _ => rfl⟩
theorem cmpLongX (a24 : Addr) : Statement (.cmpLongX a24) := ⟨_, _, rfl, rfl, fun _ _ _ => rfl⟩
theorem cpxImmX (v : Imm) : Statement (.cpxImmX v) := ⟨_, _, rfl, rfl, fun _ x h => (Nat.add_comm _ 1).trans (congrArg (1 + ·) (imm_enc_length v x h))⟩
theorem cpxDp (o : Byte) : Statement (.cpxDp o) := ⟨_, _, rfl, rfl, fun _ _ _ => rfl⟩
theorem cpxAbs (a16 : Word) : Statement (.cpxAbs a16) := ⟨_, _, rfl, rfl, fun _ _ _ => rfl⟩
theorem cpyImmX (v : Imm) : Statement (.cpyImmX v) := ⟨_, _, rfl, rfl, fun _ x h => (Nat.add_comm _ 1).trans (congrArg (1 + ·) (imm_enc_length v x h))⟩
theorem cpyDp (o : Byte) : Statement (.cpyDp o) := ⟨_, _, rfl, rfl, fun _ _ _ => rfl⟩
theorem cpyAbs (a16 : Word) : Statement (.cpyAbs a16) := ⟨_, _, rfl, rfl, fun _ _ _ => rfl⟩
theorem incAcc : Statement .incAcc := ⟨_, _, rfl, rfl, fun _ _ _ => rfl⟩
theorem incDp (o : Byte) : Statement (.incDp o) := ⟨_, _, rfl, rfl, fun _ _ _ => rfl⟩
theorem incAbs (a16 : Word) : Statement (.incAbs a16) := ⟨_, _, rfl, rfl, fun _ _ _ => rfl⟩
theorem incDpX (o : Byte) : Statement (.incDpX o) := ⟨_, _, rfl, rfl, fun _ _ _ => rfl⟩
theorem incAbsX (a16 : Word) : Statement (.incAbsX a16) := ⟨_, _, rfl, rfl, fun _ _ _ => rfl⟩
theorem decAcc : Statement .decAcc := ⟨_, _, rfl, rfl, fun _ _ _ => rfl⟩
theorem decDp (o : Byte) : Statement (.decDp o) := ⟨_, _, rfl, rfl, fun _ _ _ => rfl⟩
theorem decAbs (a16 : Word) : Statement (.decAbs a16) := ⟨_, _, rfl, rfl, fun _ _ _ => rfl⟩
theorem decDpX (o : Byte) : Statement (.decDpX o) := ⟨_, _, rfl, rfl, fun _ _ _ => rfl⟩
theorem decAbsX (a16 : Word) : Statement (.decAbsX a16) := ⟨_, _, rfl, rfl, fun _ _ _ => rfl⟩
theorem inx : Statement .inx := ⟨_, _, rfl, rfl, fun _ _ _ => rfl⟩
theorem iny : Statement .iny := ⟨_, _, rfl, rfl, fun _ _ _ => rfl⟩
theorem dex : Statement .dex := ⟨_, _, rfl, rfl, fun _ _ _ => rfl⟩
theorem dey : Statement .dey := ⟨_, _, rfl, rfl, fun _ _ _ => rfl⟩
theorem andDpIndX (o : Byte) : Statement (.andDpIndX o) := ⟨_, _, rfl, rfl, fun _ _ _ => rfl⟩
theorem andSr (o : Byte) : Statement (.andSr o) := ⟨_, _, rfl, rfl, fun _ _ _ => rfl⟩
theorem andDp (o : Byte) : Statement (.andDp o) := ⟨_, _, rfl, rfl, fun _ _ _ => rfl⟩
theorem andDpIndL (o : Byte) : Statement (.andDpIndL o) := ⟨_, _, rfl, rfl, fun _ _ _ => rfl⟩
theorem andImmM (v : Imm) : Statement (.andImmM v) := ⟨_, _, rfl, rfl, fun m _ h => (Nat.add_comm _ 1).trans (congrArg (1 + ·) (imm_enc_length v m h))⟩
theorem andAbs (a16 : Word) : Statement (.andAbs a16) := ⟨_, _, rfl, rfl, fun _ _ _ => rfl⟩
theorem andLong (a24 : Addr) : Statement (.andLong a24) := ⟨_, _, rfl, rfl, fun _ _ _ => rfl⟩
theorem andDpIndY (o : Byte) : Statement (.andDpIndY o) := ⟨_, _, rfl, rfl, fun _ _ _ => rfl⟩
theorem andDpInd (o : Byte) : Statement (.andDpInd o) := ⟨_, _, rfl, rfl, fun _ _ _ => rfl⟩
theorem andSrIndY (o : Byte) : Statement (.andSrIndY o) := ⟨_, _, rfl, rfl, fun _ _ _ => rfl⟩
theorem andDpX (o : Byte) : Statement (.andDpX o) := ⟨_, _, rfl, rfl, fun _ _ _ => rfl⟩
theorem andDpIndLY (o : Byte) : Statement (.andDpIndLY o) := ⟨_, _, rfl, rfl, fun _ _ _ => rfl⟩
theorem andAbsY (a16 : Word) : Statement (.andAbsY a16) := ⟨_, _, rfl, rfl, fun _ _ _ => rfl⟩
theorem andAbsX (a16 : Word) : Statement (.andAbsX a16) := ⟨_, _, rfl, rfl, fun _ _ _ => rfl⟩
theorem andLongX (a24 : Addr) : Statement (.andLongX a24) := ⟨_, _, rfl, rfl, fun _ _ _ => rfl⟩
theorem oraDpIndX (o : Byte) : Statement (.oraDpIndX o) := ⟨_, _, rfl, rfl, fun _ _ _ => rfl⟩
theorem oraSr (o : Byte) : Statement (.oraSr o) := ⟨_, _, rfl, rfl, fun _ _ _ => rfl⟩
theorem oraDp (o : Byte) : Statement (.oraDp o) := ⟨_, _, rfl, rfl, fun _ _ _ => rfl⟩
theorem oraDpIndL (o : Byte) : Statement (.oraDpIndL o) := ⟨_, _, rfl, rfl, fun _ _ _ => rfl⟩
theorem oraImmM (v : Imm) : Statement (.oraImmM v) := ⟨_, _, rfl, rfl, fun m _ h => (Nat.add_comm _ 1).trans (congrArg (1 + ·) (imm_enc_length v m h))⟩
theorem oraAbs (a16 : Word) : Statement (.oraAbs a16) := ⟨_, _, rfl, rfl, fun _ _ _ => rfl⟩
theorem oraLong (a24 : Addr) : Statement (.oraLong a24) := ⟨_, _, rfl, rfl, fun _ _ _ => rfl⟩
theorem oraDpIndY (o : Byte) : Statement (.oraDpIndY o) := ⟨_, _, rfl, rfl, fun _ _ _ => rfl⟩
theorem oraDpInd (o : Byte) : Statement (.oraDpInd o) := ⟨_, _, rfl, rfl, fun _ _ _ => rfl⟩
theorem oraSrIndY (o : Byte) : Statement (.oraSrIndY o) := ⟨_, _, rfl, rfl, fun _ _ _ => rfl⟩
theorem oraDpX (o : Byte) : Statement (.oraDpX o) := ⟨_, _, rfl, rfl, fun _ _ _ => rfl⟩
theorem oraDpIndLY (o : Byte) : Statement (.oraDpIndLY o) := ⟨_, _, rfl, rfl, fun _ _ _ => rfl⟩
theorem oraAbsY (a16 : Word) : Statement (.oraAbsY a16) := ⟨_, _, rfl, rfl, fun _ _ _ => rfl⟩
theorem oraAbsX (a16 : Word) : Statement (.oraAbsX a16) := ⟨_, _, rfl, rfl, fun _ _ _ => rfl⟩
theorem oraLongX (a24 : Addr) : Statement (.oraLongX a24) := ⟨_, _, rfl, rfl, fun _ _ _ => rfl⟩
theorem eorDpIndX (o : Byte) : Statement (.eorDpIndX o) := ⟨_, _, rfl, rfl, fun _ _ _ => rfl⟩
theorem eorSr (o : Byte) : Statement (.eorSr o) := ⟨_, _, rfl, rfl, fun _ _ _ => rfl⟩
theorem eorDp (o : Byte) : Statement (.eorDp o) := ⟨_, _, rfl, rfl, fun _ _ _ => rfl⟩
theorem eorDpIndL (o : Byte) : Statement (.eorDpIndL o) := ⟨_, _, rfl, rfl, fun _ _ _ => rfl⟩
theorem eorImmM (v : Imm) : Statement (.eorImmM v) := ⟨_, _, rfl, rfl, fun m _ h => (Nat.add_comm _ 1).trans (congrArg (1 + ·) (imm_enc_length v m h))⟩
theorem eorAbs (a16 : Word) : Statement (.eorAbs a16) := ⟨_, _, rfl, rfl, fun _ _ _ => rfl⟩
theorem eorLong (a24 : Addr) : Statement (.eorLong a24) := ⟨_, _, rfl, rfl, fun _ _ _ => rfl⟩
theorem eorDpIndY (o : Byte) : Statement (.eorDpIndY o) := ⟨_, _, rfl, rfl, fun _ _ _ => rfl⟩
theorem eorDpInd (o : Byte) : Statement (.eorDpInd o) := ⟨_, _, rfl, rfl, fun _ _ _ => rfl⟩
theorem eorSrIndY (o : Byte) : Statement (.eorSrIndY o) := ⟨_, _, rfl, rfl, fun _ _ _ => rfl⟩
theorem eorDpX (o : Byte) : Statement (.eorDpX o) := ⟨_, _, rfl, rfl, fun _ _ _ => rfl⟩
theorem eorDpIndLY (o : Byte) : Statement (.eorDpIndLY o) := ⟨_, _, rfl, rfl, fun _ _ _ => rfl⟩
theorem eorAbsY (a16 : Word) : Statement (.eorAbsY a16) := ⟨_, _, rfl, rfl, fun _ _ _ => rfl⟩
theorem eorAbsX (a16 : Word) : Statement (.eorAbsX a16) := ⟨_, _, rfl, rfl, fun _ _ _ => rfl⟩
theorem eorLongX (a24 : Addr) : Statement (.eorLongX a24) := ⟨_, _, rfl, rfl, fun _ _ _ => rfl⟩
theorem bitDp (o : Byte) : Statement (.bitDp o) := ⟨_, _, rfl, rfl, fun _ _ _ => rfl⟩
theorem bitAbs (a16 : Word) : Statement (.bitAbs a16) := ⟨_, _, rfl, rfl, fun _ _ _ => rfl⟩
theorem bitDpX (o : Byte) : Statement (.bitDpX o) := ⟨_, _, rfl, rfl, fun _ _ _ => rfl⟩
theorem bitAbsX (a16 : Word) : Statement (.bitAbsX a16) := ⟨_, _, rfl, rfl, fun _ _ _ => rfl⟩
theorem bitImmM (v : Imm) : Statement (.bitImmM v) := ⟨_, _, rfl, rfl, fun m _ h => (Nat.add_comm _ 1).trans (congrArg (1 + ·) (imm_enc_length v m h))⟩
theorem tsbDp (o : Byte) : Statement (.tsbDp o) := ⟨_, _, rfl, rfl, fun _ _ _ => rfl⟩
theorem tsbAbs (a16 : Word) : Statement (.tsbAbs a16) := ⟨_, _, rfl, rfl, fun _ _ _ => rfl⟩
theorem trbDp (o : Byte) : Statement (.trbDp o) := ⟨_, _, rfl, rfl, fun _ _ _ => rfl⟩
theorem trbAbs (a16 : Word) : Statement (.trbAbs a16) := ⟨_, _, rfl, rfl, fun _ _ _ => rfl⟩
theorem aslDp (o : Byte) : Statement (.aslDp o) := ⟨_, _, rfl, rfl, fun _ _ _ => rfl⟩
theorem aslAcc : Statement .aslAcc := ⟨_, _, rfl, rfl, fun _ _ _ => rfl⟩
theorem aslAbs (a16 : Word) : Statement (.aslAbs a16) := ⟨_, _, rfl, rfl, fun _ _ _ => rfl⟩
theorem aslDpX (o : Byte) : Statement (.aslDpX o) := ⟨_, _, rfl, rfl, fun _ _ _ => rfl⟩
theorem aslAbsX (a16 : Word) : Statement (.aslAbsX a16) := ⟨_, _, rfl, rfl, fun _ _ _ => rfl⟩
theorem lsrDp (o : Byte) : Statement (.lsrDp o) := ⟨_, _, rfl, rfl, fun _ _ _ => rfl⟩
theorem lsrAcc : Statement .lsrAcc := ⟨_, _, rfl, rfl, fun _ _ _ => rfl⟩
theorem lsrAbs (a16 : Word) : Statement (.lsrAbs a16) := ⟨_, _, rfl, rfl, fun _ _ _ => rfl⟩
theorem lsrDpX (o : Byte) : Statement (.lsrDpX o) := ⟨_, _, rfl, rfl, fun _ _ _ => rfl⟩
theorem lsrAbsX (a16 : Word) : Statement (.lsrAbsX a16) := ⟨_, _, rfl, rfl, fun _ _ _ => rfl⟩
theorem rolDp (o : Byte) : Statement (.rolDp o) := ⟨_, _, rfl, rfl, fun _ _ _ => rfl⟩
theorem rolAcc : Statement .rolAcc := ⟨_, _, rfl, rfl, fun _ _ _ => rfl⟩
theorem rolAbs (a16 : Word) : Statement (.rolAbs a16) := ⟨_, _, rfl, rfl, fun _ _ _ => rfl⟩
theorem rolDpX (o : Byte) : Statement (.rolDpX o) := ⟨_, _, rfl, rfl, fun _ _ _ => rfl⟩
theorem rolAbsX (a16 : Word) : Statement (.rolAbsX a16) := ⟨_, _, rfl, rfl, fun _ _ _ => rfl⟩
theorem rorDp (o : Byte) : Statement (.rorDp o) := ⟨_, _, rfl, rfl, fun _ _ _ => rfl⟩
theorem rorAcc : Statement .rorAcc := ⟨_, _, rfl, rfl, fun _ _ _ => rfl⟩
theorem rorAbs (a16 : Word) : Statement (.rorAbs a16) := ⟨_, _, rfl, rfl, fun _ _ _ => rfl⟩
theorem rorDpX (o : Byte) : Statement (.rorDpX o) := ⟨_, _, rfl, rfl, fun _ _ _ => rfl⟩
theorem rorAbsX (a16 : Word) : Statement (.rorAbsX a16) := ⟨_, _, rfl, rfl, fun _ _ _ => rfl⟩
theorem bpl (r : Byte) : Statement (.bpl r) := ⟨_, _, rfl, rfl, fun _ _ _ => rfl⟩
theorem bmi (r : Byte) : Statement (.bmi r) := ⟨_, _, rfl, rfl, fun _ _ _ => rfl⟩
theorem bvc (r : Byte) : Statement (.bvc r) := ⟨_, _, rfl, rfl, fun _ _ _ => rfl⟩
theorem bvs (r : Byte) : Statement (.bvs r) := ⟨_, _, rfl, rfl, fun _ _ _ => rfl⟩
theorem bcc (r : Byte) : Statement (.bcc r) := ⟨_, _, rfl, rfl, fun _ _ _ => rfl⟩
theorem bcs (r : Byte) : Statement (.bcs r) := ⟨_, _, rfl, rfl, fun _ _ _ => rfl⟩
theorem bne (r : Byte) : Statement (.bne r) := ⟨_, _, rfl, rfl, fun _ _ _ => rfl⟩
theorem beq (r : Byte) : Statement (.beq r) := ⟨_, _, rfl, rfl, fun _ _ _ => rfl⟩
theorem bra (r : Byte) : Statement (.bra r) := ⟨_, _, rfl, rfl, fun _ _ _ => rfl⟩
theorem brl (r16 : Word) : Statement (.brl r16) := ⟨_, _, rfl, rfl, fun _ _ _ => rfl⟩
theorem jmpAbsJ (a16 : Word) : Statement (.jmpAbsJ a16) := ⟨_, _, rfl, rfl, fun _ _ _ => rfl⟩
theorem jmpAbsInd (a16 : Word) : Statement (.jmpAbsInd a16) := ⟨_, _, rfl, rfl, fun _ _ _ => rfl⟩
theorem jmpAbsIndX (a16 : Word) : Statement (.jmpAbsIndX a16) := ⟨_, _, rfl, rfl, fun _ _ _ => rfl⟩
theorem jmlLongJ (a24 : Addr) : Statement (.jmlLongJ a24) := ⟨_, _, rfl, rfl, fun _ _ _ => rfl⟩
theorem jmlAbsIndL (a16 : Word) : Statement (.jmlAbsIndL a16) := ⟨_, _, rfl, rfl, fun _ _ _ => rfl⟩
theorem jsrAbsJ (a16 : Word) : Statement (.jsrAbsJ a16) := ⟨_, _, rfl, rfl, fun _ _ _ => rfl⟩
theorem jsrAbsIndX (a16 : Word) : Statement (.jsrAbsIndX a16) := ⟨_, _, rfl, rfl, fun _ _ _ => rfl⟩
theorem jsl (a24 : Addr) : Statement (.jsl a24) := ⟨_, _, rfl, rfl, fun _ _ _ => rfl⟩
theorem rts : Statement .rts := ⟨_, _, rfl, rfl, fun _ _ _ => rfl⟩
theorem rtl : Statement .rtl := ⟨_, _, rfl, rfl, fun _ _ _ => rfl⟩
theorem pha : Statement .pha := ⟨_, _, rfl, rfl, fun _ _ _ => rfl⟩
theorem phx : Statement .phx := ⟨_, _, rfl, rfl, fun _ _ _ => rfl⟩
theorem phy : Statement .phy := ⟨_, _, rfl, rfl, fun _ _ _ => rfl⟩
theorem php : Statement .php := ⟨_, _, rfl, rfl, fun _ _ _ => rfl⟩
theorem phb : Statement .phb := ⟨_, _, rfl, rfl, fun _ _ _ => rfl⟩
theorem phk : Statement .phk := ⟨_, _, rfl, rfl, fun _ _ _ => rfl⟩
theorem phd : Statement .phd := ⟨_, _, rfl, rfl, fun _ _ _ => rfl⟩
theorem pea (v : Word) : Statement (.pea v) := ⟨_, _, rfl, rfl, fun _ _ _ => rfl⟩
theorem pei (o : Byte) : Statement (.pei o) := ⟨_, _, rfl, rfl, fun _ _ _ => rfl⟩
theorem per (r16 : Word) : Statement (.per r16) := ⟨_, _, rfl, rfl, fun _ _ _ => rfl⟩
theorem pla : Statement .pla := ⟨_, _, rfl, rfl, fun _ _ _ => rfl⟩
theorem plx : Statement .plx := ⟨_, _, rfl, rfl, fun _ _ _ => rfl⟩
theorem plp : Statement .plp := ⟨_, _, rfl, rfl, fun _ _ _ => rfl⟩
theorem ply : Statement .ply := ⟨_, _, rfl, rfl, fun _ _ _ => rfl⟩
theorem plb : Statement .plb := ⟨_, _, rfl, rfl, fun _ _ _ => rfl⟩
theorem pld : Statement .pld := ⟨_, _, rfl, rfl, fun _ _ _ => rfl⟩
theorem clc : Statement .clc := ⟨_, _, rfl, rfl, fun _ _ _ => rfl⟩
theorem sec : Statement .sec := ⟨_, _, rfl, rfl, fun _ _ _ => rfl⟩
theorem cli : Statement .cli := ⟨_, _, rfl, rfl, fun _ _ _ => rfl⟩
theorem sei : Statement .sei := ⟨_, _, rfl, rfl, fun _ _ _ => rfl⟩
theorem cld : Statement .cld := ⟨_, _, rfl, rfl, fun _ _ _ => rfl⟩
theorem rep (mask : Byte) : Statement (.rep mask) := ⟨_, _, rfl, rfl, fun _ _ _ => rfl⟩
theorem sep (mask : Byte) : Statement (.sep mask) := ⟨_, _, rfl, rfl, fun _ _ _ => rfl⟩
theorem sed : Statement .sed := ⟨_, _, rfl, rfl, fun _ _ _ => rfl⟩
theorem clv : Statement .clv := ⟨_, _, rfl, rfl, fun _ _ _ => rfl⟩
theorem xce : Statement .xce := ⟨_, _, rfl, rfl, fun _ _ _ => rfl⟩
theorem brk (sig : Byte) : Statement (.brk sig) := ⟨_, _, rfl, rfl, fun _ _ _ => rfl⟩
theorem rti : Statement .rti := ⟨_, _, rfl, rfl, fun _ _ _ => rfl⟩
theorem cop (sig : Byte) : Statement (.cop sig) := ⟨_, _, rfl, rfl, fun _ _ _ => rfl⟩
theorem wai : Statement .wai := ⟨_, _, rfl, rfl, fun _ _ _ => rfl⟩
theorem stp : Statement .stp := ⟨_, _, rfl, rfl, fun _ _ _ => rfl⟩
theorem nop : Statement .nop := ⟨_, _, rfl, rfl, fun _ _ _ => rfl⟩
theorem wdm (sig : Byte) : Statement (.wdm sig) := ⟨_, _, rfl, rfl, fun _ _ _ => rfl⟩

end Sys2Proof.Laws.EncodingLength
end

