-- ==== Sys2Proof/Machine/Cycles.lean ====
section
/-! DEFINITION. The informative cycle counts (spec/70_reset_and_hazards.md R495; spec/60_exceptions.md R404;
spec/40_addressing.md R185): `cycles_base` and `cycle_penalties` of spec/opcode_table.json. No state depends on them. -/

namespace Sys2Proof.Machine

/-- The penalty conditions of R495. -/
inductive Penalty where
  /-- One or two cycles when P.M = 0. -/
  | wideM (n : Nat)
  /-- One cycle when P.X = 0. -/
  | wideX
  /-- One cycle when D[7:0] is not 0. -/
  | dpLow
  /-- One cycle when E = 0. -/
  | native
  /-- absX: one cycle when P.X = 0 or the index crosses a page (R185). -/
  | crossAbsX
  /-- absY, likewise. -/
  | crossAbsY
  /-- dpIndY, likewise, from the pointer. -/
  | crossDpIndY
  /-- A conditional branch: one cycle when taken, and one more when its target is in another page with E = 1. -/
  | branch
  /-- BRA: one cycle when its target is in another page with E = 1. -/
  | branchPage
  /-- MVN and MVP: the base is per byte moved. -/
  | perByte
deriving DecidableEq, Repr

/-- `cycles_base` and `cycle_penalties` of the opcodes 00 to 0F. -/
def cycleRow0 : List (Nat × List Penalty) :=
  [(7, [.native]), (6, [.wideM 1, .dpLow]), (7, [.native]), (4, [.wideM 1]), (5, [.wideM 2, .dpLow]),
   (3, [.wideM 1, .dpLow]), (5, [.wideM 2, .dpLow]), (6, [.wideM 1, .dpLow]), (3, []), (2, [.wideM 1]), (2, []),
   (4, []), (6, [.wideM 2]), (4, [.wideM 1]), (6, [.wideM 2]), (5, [.wideM 1])]

/-- `cycles_base` and `cycle_penalties` of the opcodes 10 to 1F. -/
def cycleRow1 : List (Nat × List Penalty) :=
  [(2, [.branch]), (5, [.wideM 1, .dpLow, .crossDpIndY]), (5, [.wideM 1, .dpLow]), (7, [.wideM 1]),
   (5, [.wideM 2, .dpLow]), (4, [.wideM 1, .dpLow]), (6, [.wideM 2, .dpLow]), (6, [.wideM 1, .dpLow]), (2, []),
   (4, [.wideM 1, .crossAbsY]), (2, []), (2, []), (6, [.wideM 2]), (4, [.wideM 1, .crossAbsX]), (7, [.wideM 2]),
   (5, [.wideM 1])]

/-- `cycles_base` and `cycle_penalties` of the opcodes 20 to 2F. -/
def cycleRow2 : List (Nat × List Penalty) :=
  [(6, []), (6, [.wideM 1, .dpLow]), (8, []), (4, [.wideM 1]), (3, [.wideM 1, .dpLow]), (3, [.wideM 1, .dpLow]),
   (5, [.wideM 2, .dpLow]), (6, [.wideM 1, .dpLow]), (4, []), (2, [.wideM 1]), (2, []), (5, []), (4, [.wideM 1]),
   (4, [.wideM 1]), (6, [.wideM 2]), (5, [.wideM 1])]

/-- `cycles_base` and `cycle_penalties` of the opcodes 30 to 3F. -/
def cycleRow3 : List (Nat × List Penalty) :=
  [(2, [.branch]), (5, [.wideM 1, .dpLow, .crossDpIndY]), (5, [.wideM 1, .dpLow]), (7, [.wideM 1]),
   (4, [.wideM 1, .dpLow]), (4, [.wideM 1, .dpLow]), (6, [.wideM 2, .dpLow]), (6, [.wideM 1, .dpLow]), (2, []),
   (4, [.wideM 1, .crossAbsY]), (2, []), (2, []), (4, [.wideM 1, .crossAbsX]), (4, [.wideM 1, .crossAbsX]),
   (7, [.wideM 2]), (5, [.wideM 1])]

/-- `cycles_base` and `cycle_penalties` of the opcodes 40 to 4F. -/
def cycleRow4 : List (Nat × List Penalty) :=
  [(6, [.native]), (6, [.wideM 1, .dpLow]), (2, []), (4, [.wideM 1]), (7, [.perByte]), (3, [.wideM 1, .dpLow]),
   (5, [.wideM 2, .dpLow]), (6, [.wideM 1, .dpLow]), (3, [.wideM 1]), (2, [.wideM 1]), (2, []), (3, []), (3, []),
   (4, [.wideM 1]), (6, [.wideM 2]), (5, [.wideM 1])]

/-- `cycles_base` and `cycle_penalties` of the opcodes 50 to 5F. -/
def cycleRow5 : List (Nat × List Penalty) :=
  [(2, [.branch]), (5, [.wideM 1, .dpLow, .crossDpIndY]), (5, [.wideM 1, .dpLow]), (7, [.wideM 1]), (7, [.perByte]),
   (4, [.wideM 1, .dpLow]), (6, [.wideM 2, .dpLow]), (6, [.wideM 1, .dpLow]), (2, []), (4, [.wideM 1, .crossAbsY]),
   (3, [.wideX]), (2, []), (4, []), (4, [.wideM 1, .crossAbsX]), (7, [.wideM 2]), (5, [.wideM 1])]

/-- `cycles_base` and `cycle_penalties` of the opcodes 60 to 6F. -/
def cycleRow6 : List (Nat × List Penalty) :=
  [(6, []), (6, [.wideM 1, .dpLow]), (6, []), (4, [.wideM 1]), (3, [.wideM 1, .dpLow]), (3, [.wideM 1, .dpLow]),
   (5, [.wideM 2, .dpLow]), (6, [.wideM 1, .dpLow]), (4, [.wideM 1]), (2, [.wideM 1]), (2, []), (6, []), (5, []),
   (4, [.wideM 1]), (6, [.wideM 2]), (5, [.wideM 1])]

/-- `cycles_base` and `cycle_penalties` of the opcodes 70 to 7F. -/
def cycleRow7 : List (Nat × List Penalty) :=
  [(2, [.branch]), (5, [.wideM 1, .dpLow, .crossDpIndY]), (5, [.wideM 1, .dpLow]), (7, [.wideM 1]),
   (4, [.wideM 1, .dpLow]), (4, [.wideM 1, .dpLow]), (6, [.wideM 2, .dpLow]), (6, [.wideM 1, .dpLow]), (2, []),
   (4, [.wideM 1, .crossAbsY]), (4, [.wideX]), (2, []), (6, []), (4, [.wideM 1, .crossAbsX]), (7, [.wideM 2]),
   (5, [.wideM 1])]

/-- `cycles_base` and `cycle_penalties` of the opcodes 80 to 8F. -/
def cycleRow8 : List (Nat × List Penalty) :=
  [(3, [.branchPage]), (6, [.wideM 1, .dpLow]), (4, []), (4, [.wideM 1]), (3, [.wideX, .dpLow]),
   (3, [.wideM 1, .dpLow]), (3, [.wideX, .dpLow]), (6, [.wideM 1, .dpLow]), (2, []), (2, [.wideM 1]), (2, []),
   (3, []), (4, [.wideX]), (4, [.wideM 1]), (4, [.wideX]), (5, [.wideM 1])]

/-- `cycles_base` and `cycle_penalties` of the opcodes 90 to 9F. -/
def cycleRow9 : List (Nat × List Penalty) :=
  [(2, [.branch]), (6, [.wideM 1, .dpLow]), (5, [.wideM 1, .dpLow]), (7, [.wideM 1]), (4, [.wideX, .dpLow]),
   (4, [.wideM 1, .dpLow]), (4, [.wideX, .dpLow]), (6, [.wideM 1, .dpLow]), (2, []), (5, [.wideM 1]), (2, []),
   (2, []), (4, [.wideM 1]), (5, [.wideM 1]), (5, [.wideM 1]), (5, [.wideM 1])]

/-- `cycles_base` and `cycle_penalties` of the opcodes A0 to AF. -/
def cycleRowA : List (Nat × List Penalty) :=
  [(2, [.wideX]), (6, [.wideM 1, .dpLow]), (2, [.wideX]), (4, [.wideM 1]), (3, [.wideX, .dpLow]),
   (3, [.wideM 1, .dpLow]), (3, [.wideX, .dpLow]), (6, [.wideM 1, .dpLow]), (2, []), (2, [.wideM 1]), (2, []),
   (4, []), (4, [.wideX]), (4, [.wideM 1]), (4, [.wideX]), (5, [.wideM 1])]

/-- `cycles_base` and `cycle_penalties` of the opcodes B0 to BF. -/
def cycleRowB : List (Nat × List Penalty) :=
  [(2, [.branch]), (5, [.wideM 1, .dpLow, .crossDpIndY]), (5, [.wideM 1, .dpLow]), (7, [.wideM 1]),
   (4, [.wideX, .dpLow]), (4, [.wideM 1, .dpLow]), (4, [.wideX, .dpLow]), (6, [.wideM 1, .dpLow]), (2, []),
   (4, [.wideM 1, .crossAbsY]), (2, []), (2, []), (4, [.wideX, .crossAbsX]), (4, [.wideM 1, .crossAbsX]),
   (4, [.wideX, .crossAbsY]), (5, [.wideM 1])]

/-- `cycles_base` and `cycle_penalties` of the opcodes C0 to CF. -/
def cycleRowC : List (Nat × List Penalty) :=
  [(2, [.wideX]), (6, [.wideM 1, .dpLow]), (3, []), (4, [.wideM 1]), (3, [.wideX, .dpLow]), (3, [.wideM 1, .dpLow]),
   (5, [.wideM 2, .dpLow]), (6, [.wideM 1, .dpLow]), (2, []), (2, [.wideM 1]), (2, []), (3, []), (4, [.wideX]),
   (4, [.wideM 1]), (6, [.wideM 2]), (5, [.wideM 1])]

/-- `cycles_base` and `cycle_penalties` of the opcodes D0 to DF. -/
def cycleRowD : List (Nat × List Penalty) :=
  [(2, [.branch]), (5, [.wideM 1, .dpLow, .crossDpIndY]), (5, [.wideM 1, .dpLow]), (7, [.wideM 1]), (6, [.dpLow]),
   (4, [.wideM 1, .dpLow]), (6, [.wideM 2, .dpLow]), (6, [.wideM 1, .dpLow]), (2, []), (4, [.wideM 1, .crossAbsY]),
   (3, [.wideX]), (3, []), (6, []), (4, [.wideM 1, .crossAbsX]), (7, [.wideM 2]), (5, [.wideM 1])]

/-- `cycles_base` and `cycle_penalties` of the opcodes E0 to EF. -/
def cycleRowE : List (Nat × List Penalty) :=
  [(2, [.wideX]), (6, [.wideM 1, .dpLow]), (3, []), (4, [.wideM 1]), (3, [.wideX, .dpLow]), (3, [.wideM 1, .dpLow]),
   (5, [.wideM 2, .dpLow]), (6, [.wideM 1, .dpLow]), (2, []), (2, [.wideM 1]), (2, []), (3, []), (4, [.wideX]),
   (4, [.wideM 1]), (6, [.wideM 2]), (5, [.wideM 1])]

/-- `cycles_base` and `cycle_penalties` of the opcodes F0 to FF. -/
def cycleRowF : List (Nat × List Penalty) :=
  [(2, [.branch]), (5, [.wideM 1, .dpLow, .crossDpIndY]), (5, [.wideM 1, .dpLow]), (7, [.wideM 1]), (5, []),
   (4, [.wideM 1, .dpLow]), (6, [.wideM 2, .dpLow]), (6, [.wideM 1, .dpLow]), (2, []), (4, [.wideM 1, .crossAbsY]),
   (4, [.wideX]), (2, []), (8, []), (4, [.wideM 1, .crossAbsX]), (7, [.wideM 2]), (5, [.wideM 1])]

/-- The sixteen rows of the cycle table. -/
def cycleRows : List (List (Nat × List Penalty)) :=
  [cycleRow0, cycleRow1, cycleRow2, cycleRow3, cycleRow4, cycleRow5, cycleRow6, cycleRow7] ++
  [cycleRow8, cycleRow9, cycleRowA, cycleRowB, cycleRowC, cycleRowD, cycleRowE, cycleRowF]

/-- Base cost and penalties of an opcode. -/
def cycleEntry (op : Byte) : Nat × List Penalty :=
  (cycleRows.getD (op.toNat / 16) []).getD (op.toNat % 16) (0, [])

/-- Bits 15-8 differ (R185). -/
def otherPage (a b : Word) : Bool := hiByte a != hiByte b

/-- The condition of a conditional branch (R301-R308): bits 7-6 of the opcode choose N, V, C or Z, bit 5 the value that takes it. -/
def branchTaken (op : Byte) (p : Flags) : Bool :=
  let flag := if op.getLsbD 7 then (if op.getLsbD 6 then p.z else p.c) else (if op.getLsbD 6 then p.v else p.n)
  flag == op.getLsbD 5

/-- One cycle for an indexed access when P.X = 0 or the index crosses a page (R185). -/
def crossCost (base index : Word) (s : State) : Nat :=
  (!s.p.x || otherPage base (base + index)).toNat

/-- The extra cycles of a penalty. `bytes` are the opcode and the operand bytes, and `s` the state after their fetch.
DESIGN CHOICE (log 12): the page-cross penalty of (dp),Y counts 0 where the read of its pointer raises a fatal condition, since R495
gives no count for an instruction that faults. -/
def Penalty.cost (pen : Penalty) (bytes : List Byte) (s : State) : Nat :=
  let op := bytes.getD 0 0
  let b1 := bytes.getD 1 0
  let a16 := mkWord (bytes.getD 2 0) b1
  let crosses := s.e && otherPage s.pc (rel8Target b1 s)
  match pen with
  | .wideM n => if s.p.m then 0 else n
  | .wideX => if s.p.x then 0 else 1
  | .dpLow => if loByte s.d = 0 then 0 else 1
  | .native => if s.e then 0 else 1
  | .crossAbsX => crossCost a16 s.getX s
  | .crossAbsY => crossCost a16 s.getY s
  | .crossDpIndY =>
    match getAddress (.dpInd b1) s with
    | .ok ea _ => crossCost (offOf ea.base) s.getY s
    | .raise _ _ => 0
  | .branch => if branchTaken op s.p then 1 + crosses.toNat else 0
  | .branchPage => crosses.toNat
  | .perByte => 7 * s.a.toNat

/-- `execute(ctx) -> cycles` (R404): base cost and penalties of an instruction, in the state after its fetch. -/
def instrCycles (i : Instr) (s : State) : Nat :=
  let bytes := encode i
  let entry := cycleEntry (bytes.getD 0 0)
  entry.1 + (entry.2.map fun pen => pen.cost bytes s).sum

/-- The cycles of the DMA that a write of `v` to 0x420B runs, from the OPEN parameter `DMA_CYCLES` (R404, R495, D38), from the
transfer sizes at the time of the write. DESIGN CHOICE (log 12): a write that enables several channels costs the sum of `DMA_CYCLES`
over them, each of its own size; the spec gives only the cost of a DMA of n bytes. -/
def dmaTriggerCycles (v : Byte) (s : State) : Nat :=
  (([0, 1, 2, 3, 4, 5, 6, 7].filter fun n => v.getLsbD n).map fun n =>
    Config.dmaCycles (dmaCount (mkWord (s.cells.read (0x4306 + 0x10 * n)) (s.cells.read (0x4305 + 0x10 * n))))).sum

end Sys2Proof.Machine
end

