-- ==== Sys2Proof/Tests/Slice0.lean ====
section
/-! SUPPORT. Tests of the model, and the witnesses of the obligations' hypotheses. Expected results come from the worked examples of
the rules (the rule is named in each section), from the opcode map R127 and the layouts R123, and from spec/95_test_vectors.md
section 0 for the start state. -/

namespace Sys2Proof.Tests

set_option Elab.async false

open Sys2Proof Sys2Proof.Machine Sys2Proof.Claims

/-! ### Well-formedness: each check refuses an ill-formed term -/

/-- An accumulator-class immediate of each length. -/
def immMs (v : Imm) : List Instr :=
  [.ldaImmM v, .adcImmM v, .sbcImmM v, .cmpImmM v, .andImmM v, .oraImmM v, .eorImmM v, .bitImmM v]

/-- An index-class immediate of each length. -/
def immXs (v : Imm) : List Instr := [.ldxImmX v, .ldyImmX v, .cpxImmX v, .cpyImmX v]

theorem test_wf_immM_refused : ∀ x, (∀ i ∈ immMs (.w 0x1234), i.wellFormed true x = false) ∧
    (∀ i ∈ immMs (.b 0x12), i.wellFormed false x = false) := by decide
theorem test_wf_immM_accepted : ∀ x, (∀ i ∈ immMs (.b 0x12), i.wellFormed true x = true) ∧
    (∀ i ∈ immMs (.w 0x1234), i.wellFormed false x = true) := by decide
theorem test_wf_immX_refused : ∀ m, (∀ i ∈ immXs (.w 0x1234), i.wellFormed m true = false) ∧
    (∀ i ∈ immXs (.b 0x12), i.wellFormed m false = false) := by decide
theorem test_wf_immX_accepted : ∀ m, (∀ i ∈ immXs (.b 0x12), i.wellFormed m true = true) ∧
    (∀ i ∈ immXs (.w 0x1234), i.wellFormed m false = true) := by decide

/-! ### Decoding: words written out from R127 (the opcode) and R123 (the operand bytes), every constructor, one row of the map a
theorem -/

/-- The decoder reads exactly this instruction from these bytes. -/
def reads (m x : Bool) (bytes : List Byte) (i : Instr) : Bool :=
  match decode m x bytes with
  | .ok (j, []) => j == i
  | _ => false

theorem test_decode_row0 : ∀ p ∈ ([
    ([0x00, 0x12], .brk 0x12), ([0x01, 0x12], .oraDpIndX 0x12), ([0x02, 0x12], .cop 0x12), ([0x03, 0x12], .oraSr 0x12),
     ([0x04, 0x12], .tsbDp 0x12), ([0x05, 0x12], .oraDp 0x12), ([0x06, 0x12], .aslDp 0x12), ([0x07, 0x12], .oraDpIndL 0x12),
     ([0x08], .php), ([0x09, 0x12], .oraImmM (.b 0x12)), ([0x0A], .aslAcc), ([0x0B], .phd),
     ([0x0C, 0x12, 0x34], .tsbAbs 0x3412), ([0x0D, 0x12, 0x34], .oraAbs 0x3412), ([0x0E, 0x12, 0x34], .aslAbs 0x3412),
     ([0x0F, 0x12, 0x34, 0x56], .oraLong 0x563412)] : List (List Byte × Instr)), reads true true p.1 p.2 = true := by decide +kernel

theorem test_decode_row1 : ∀ p ∈ ([
    ([0x10, 0x12], .bpl 0x12), ([0x11, 0x12], .oraDpIndY 0x12), ([0x12, 0x12], .oraDpInd 0x12),
     ([0x13, 0x12], .oraSrIndY 0x12), ([0x14, 0x12], .trbDp 0x12), ([0x15, 0x12], .oraDpX 0x12),
     ([0x16, 0x12], .aslDpX 0x12), ([0x17, 0x12], .oraDpIndLY 0x12), ([0x18], .clc), ([0x19, 0x12, 0x34], .oraAbsY 0x3412),
     ([0x1A], .incAcc), ([0x1B], .tcs), ([0x1C, 0x12, 0x34], .trbAbs 0x3412), ([0x1D, 0x12, 0x34], .oraAbsX 0x3412),
     ([0x1E, 0x12, 0x34], .aslAbsX 0x3412), ([0x1F, 0x12, 0x34, 0x56], .oraLongX 0x563412)] : List (List Byte × Instr)), reads true true p.1 p.2 = true := by decide +kernel

theorem test_decode_row2 : ∀ p ∈ ([
    ([0x20, 0x12, 0x34], .jsrAbsJ 0x3412), ([0x21, 0x12], .andDpIndX 0x12), ([0x22, 0x12, 0x34, 0x56], .jsl 0x563412),
     ([0x23, 0x12], .andSr 0x12), ([0x24, 0x12], .bitDp 0x12), ([0x25, 0x12], .andDp 0x12), ([0x26, 0x12], .rolDp 0x12),
     ([0x27, 0x12], .andDpIndL 0x12), ([0x28], .plp), ([0x29, 0x12], .andImmM (.b 0x12)), ([0x2A], .rolAcc), ([0x2B], .pld),
     ([0x2C, 0x12, 0x34], .bitAbs 0x3412), ([0x2D, 0x12, 0x34], .andAbs 0x3412), ([0x2E, 0x12, 0x34], .rolAbs 0x3412),
     ([0x2F, 0x12, 0x34, 0x56], .andLong 0x563412)] : List (List Byte × Instr)), reads true true p.1 p.2 = true := by decide +kernel

theorem test_decode_row3 : ∀ p ∈ ([
    ([0x30, 0x12], .bmi 0x12), ([0x31, 0x12], .andDpIndY 0x12), ([0x32, 0x12], .andDpInd 0x12),
     ([0x33, 0x12], .andSrIndY 0x12), ([0x34, 0x12], .bitDpX 0x12), ([0x35, 0x12], .andDpX 0x12),
     ([0x36, 0x12], .rolDpX 0x12), ([0x37, 0x12], .andDpIndLY 0x12), ([0x38], .sec), ([0x39, 0x12, 0x34], .andAbsY 0x3412),
     ([0x3A], .decAcc), ([0x3B], .tsc), ([0x3C, 0x12, 0x34], .bitAbsX 0x3412), ([0x3D, 0x12, 0x34], .andAbsX 0x3412),
     ([0x3E, 0x12, 0x34], .rolAbsX 0x3412), ([0x3F, 0x12, 0x34, 0x56], .andLongX 0x563412)] : List (List Byte × Instr)), reads true true p.1 p.2 = true := by decide +kernel

theorem test_decode_row4 : ∀ p ∈ ([
    ([0x40], .rti), ([0x41, 0x12], .eorDpIndX 0x12), ([0x42, 0x12], .wdm 0x12), ([0x43, 0x12], .eorSr 0x12),
     ([0x44, 0x12, 0x34], .mvp 0x12 0x34), ([0x45, 0x12], .eorDp 0x12), ([0x46, 0x12], .lsrDp 0x12),
     ([0x47, 0x12], .eorDpIndL 0x12), ([0x48], .pha), ([0x49, 0x12], .eorImmM (.b 0x12)), ([0x4A], .lsrAcc), ([0x4B], .phk),
     ([0x4C, 0x12, 0x34], .jmpAbsJ 0x3412), ([0x4D, 0x12, 0x34], .eorAbs 0x3412), ([0x4E, 0x12, 0x34], .lsrAbs 0x3412),
     ([0x4F, 0x12, 0x34, 0x56], .eorLong 0x563412)] : List (List Byte × Instr)), reads true true p.1 p.2 = true := by decide +kernel

theorem test_decode_row5 : ∀ p ∈ ([
    ([0x50, 0x12], .bvc 0x12), ([0x51, 0x12], .eorDpIndY 0x12), ([0x52, 0x12], .eorDpInd 0x12),
     ([0x53, 0x12], .eorSrIndY 0x12), ([0x54, 0x12, 0x34], .mvn 0x12 0x34), ([0x55, 0x12], .eorDpX 0x12),
     ([0x56, 0x12], .lsrDpX 0x12), ([0x57, 0x12], .eorDpIndLY 0x12), ([0x58], .cli), ([0x59, 0x12, 0x34], .eorAbsY 0x3412),
     ([0x5A], .phy), ([0x5B], .tcd), ([0x5C, 0x12, 0x34, 0x56], .jmlLongJ 0x563412), ([0x5D, 0x12, 0x34], .eorAbsX 0x3412),
     ([0x5E, 0x12, 0x34], .lsrAbsX 0x3412), ([0x5F, 0x12, 0x34, 0x56], .eorLongX 0x563412)] : List (List Byte × Instr)), reads true true p.1 p.2 = true := by decide +kernel

theorem test_decode_row6 : ∀ p ∈ ([
    ([0x60], .rts), ([0x61, 0x12], .adcDpIndX 0x12), ([0x62, 0x12, 0x34], .per 0x3412), ([0x63, 0x12], .adcSr 0x12),
     ([0x64, 0x12], .stzDp 0x12), ([0x65, 0x12], .adcDp 0x12), ([0x66, 0x12], .rorDp 0x12), ([0x67, 0x12], .adcDpIndL 0x12),
     ([0x68], .pla), ([0x69, 0x12], .adcImmM (.b 0x12)), ([0x6A], .rorAcc), ([0x6B], .rtl),
     ([0x6C, 0x12, 0x34], .jmpAbsInd 0x3412), ([0x6D, 0x12, 0x34], .adcAbs 0x3412), ([0x6E, 0x12, 0x34], .rorAbs 0x3412),
     ([0x6F, 0x12, 0x34, 0x56], .adcLong 0x563412)] : List (List Byte × Instr)), reads true true p.1 p.2 = true := by decide +kernel

theorem test_decode_row7 : ∀ p ∈ ([
    ([0x70, 0x12], .bvs 0x12), ([0x71, 0x12], .adcDpIndY 0x12), ([0x72, 0x12], .adcDpInd 0x12),
     ([0x73, 0x12], .adcSrIndY 0x12), ([0x74, 0x12], .stzDpX 0x12), ([0x75, 0x12], .adcDpX 0x12),
     ([0x76, 0x12], .rorDpX 0x12), ([0x77, 0x12], .adcDpIndLY 0x12), ([0x78], .sei), ([0x79, 0x12, 0x34], .adcAbsY 0x3412),
     ([0x7A], .ply), ([0x7B], .tdc), ([0x7C, 0x12, 0x34], .jmpAbsIndX 0x3412), ([0x7D, 0x12, 0x34], .adcAbsX 0x3412),
     ([0x7E, 0x12, 0x34], .rorAbsX 0x3412), ([0x7F, 0x12, 0x34, 0x56], .adcLongX 0x563412)] : List (List Byte × Instr)), reads true true p.1 p.2 = true := by decide +kernel

theorem test_decode_row8 : ∀ p ∈ ([
    ([0x80, 0x12], .bra 0x12), ([0x81, 0x12], .staDpIndX 0x12), ([0x82, 0x12, 0x34], .brl 0x3412),
     ([0x83, 0x12], .staSr 0x12), ([0x84, 0x12], .styDp 0x12), ([0x85, 0x12], .staDp 0x12), ([0x86, 0x12], .stxDp 0x12),
     ([0x87, 0x12], .staDpIndL 0x12), ([0x88], .dey), ([0x89, 0x12], .bitImmM (.b 0x12)), ([0x8A], .txa), ([0x8B], .phb),
     ([0x8C, 0x12, 0x34], .styAbs 0x3412), ([0x8D, 0x12, 0x34], .staAbs 0x3412), ([0x8E, 0x12, 0x34], .stxAbs 0x3412),
     ([0x8F, 0x12, 0x34, 0x56], .staLong 0x563412)] : List (List Byte × Instr)), reads true true p.1 p.2 = true := by decide +kernel

theorem test_decode_row9 : ∀ p ∈ ([
    ([0x90, 0x12], .bcc 0x12), ([0x91, 0x12], .staDpIndY 0x12), ([0x92, 0x12], .staDpInd 0x12),
     ([0x93, 0x12], .staSrIndY 0x12), ([0x94, 0x12], .styDpX 0x12), ([0x95, 0x12], .staDpX 0x12),
     ([0x96, 0x12], .stxDpY 0x12), ([0x97, 0x12], .staDpIndLY 0x12), ([0x98], .tya), ([0x99, 0x12, 0x34], .staAbsY 0x3412),
     ([0x9A], .txs), ([0x9B], .txy), ([0x9C, 0x12, 0x34], .stzAbs 0x3412), ([0x9D, 0x12, 0x34], .staAbsX 0x3412),
     ([0x9E, 0x12, 0x34], .stzAbsX 0x3412), ([0x9F, 0x12, 0x34, 0x56], .staLongX 0x563412)] : List (List Byte × Instr)), reads true true p.1 p.2 = true := by decide +kernel

theorem test_decode_rowA : ∀ p ∈ ([
    ([0xA0, 0x12], .ldyImmX (.b 0x12)), ([0xA1, 0x12], .ldaDpIndX 0x12), ([0xA2, 0x12], .ldxImmX (.b 0x12)),
     ([0xA3, 0x12], .ldaSr 0x12), ([0xA4, 0x12], .ldyDp 0x12), ([0xA5, 0x12], .ldaDp 0x12), ([0xA6, 0x12], .ldxDp 0x12),
     ([0xA7, 0x12], .ldaDpIndL 0x12), ([0xA8], .tay), ([0xA9, 0x12], .ldaImmM (.b 0x12)), ([0xAA], .tax), ([0xAB], .plb),
     ([0xAC, 0x12, 0x34], .ldyAbs 0x3412), ([0xAD, 0x12, 0x34], .ldaAbs 0x3412), ([0xAE, 0x12, 0x34], .ldxAbs 0x3412),
     ([0xAF, 0x12, 0x34, 0x56], .ldaLong 0x563412)] : List (List Byte × Instr)), reads true true p.1 p.2 = true := by decide +kernel

theorem test_decode_rowB : ∀ p ∈ ([
    ([0xB0, 0x12], .bcs 0x12), ([0xB1, 0x12], .ldaDpIndY 0x12), ([0xB2, 0x12], .ldaDpInd 0x12),
     ([0xB3, 0x12], .ldaSrIndY 0x12), ([0xB4, 0x12], .ldyDpX 0x12), ([0xB5, 0x12], .ldaDpX 0x12),
     ([0xB6, 0x12], .ldxDpY 0x12), ([0xB7, 0x12], .ldaDpIndLY 0x12), ([0xB8], .clv), ([0xB9, 0x12, 0x34], .ldaAbsY 0x3412),
     ([0xBA], .tsx), ([0xBB], .tyx), ([0xBC, 0x12, 0x34], .ldyAbsX 0x3412), ([0xBD, 0x12, 0x34], .ldaAbsX 0x3412),
     ([0xBE, 0x12, 0x34], .ldxAbsY 0x3412), ([0xBF, 0x12, 0x34, 0x56], .ldaLongX 0x563412)] : List (List Byte × Instr)), reads true true p.1 p.2 = true := by decide +kernel

theorem test_decode_rowC : ∀ p ∈ ([
    ([0xC0, 0x12], .cpyImmX (.b 0x12)), ([0xC1, 0x12], .cmpDpIndX 0x12), ([0xC2, 0x12], .rep 0x12),
     ([0xC3, 0x12], .cmpSr 0x12), ([0xC4, 0x12], .cpyDp 0x12), ([0xC5, 0x12], .cmpDp 0x12), ([0xC6, 0x12], .decDp 0x12),
     ([0xC7, 0x12], .cmpDpIndL 0x12), ([0xC8], .iny), ([0xC9, 0x12], .cmpImmM (.b 0x12)), ([0xCA], .dex), ([0xCB], .wai),
     ([0xCC, 0x12, 0x34], .cpyAbs 0x3412), ([0xCD, 0x12, 0x34], .cmpAbs 0x3412), ([0xCE, 0x12, 0x34], .decAbs 0x3412),
     ([0xCF, 0x12, 0x34, 0x56], .cmpLong 0x563412)] : List (List Byte × Instr)), reads true true p.1 p.2 = true := by decide +kernel

theorem test_decode_rowD : ∀ p ∈ ([
    ([0xD0, 0x12], .bne 0x12), ([0xD1, 0x12], .cmpDpIndY 0x12), ([0xD2, 0x12], .cmpDpInd 0x12),
     ([0xD3, 0x12], .cmpSrIndY 0x12), ([0xD4, 0x12], .pei 0x12), ([0xD5, 0x12], .cmpDpX 0x12), ([0xD6, 0x12], .decDpX 0x12),
     ([0xD7, 0x12], .cmpDpIndLY 0x12), ([0xD8], .cld), ([0xD9, 0x12, 0x34], .cmpAbsY 0x3412), ([0xDA], .phx), ([0xDB], .stp),
     ([0xDC, 0x12, 0x34], .jmlAbsIndL 0x3412), ([0xDD, 0x12, 0x34], .cmpAbsX 0x3412), ([0xDE, 0x12, 0x34], .decAbsX 0x3412),
     ([0xDF, 0x12, 0x34, 0x56], .cmpLongX 0x563412)] : List (List Byte × Instr)), reads true true p.1 p.2 = true := by decide +kernel

theorem test_decode_rowE : ∀ p ∈ ([
    ([0xE0, 0x12], .cpxImmX (.b 0x12)), ([0xE1, 0x12], .sbcDpIndX 0x12), ([0xE2, 0x12], .sep 0x12),
     ([0xE3, 0x12], .sbcSr 0x12), ([0xE4, 0x12], .cpxDp 0x12), ([0xE5, 0x12], .sbcDp 0x12), ([0xE6, 0x12], .incDp 0x12),
     ([0xE7, 0x12], .sbcDpIndL 0x12), ([0xE8], .inx), ([0xE9, 0x12], .sbcImmM (.b 0x12)), ([0xEA], .nop), ([0xEB], .xba),
     ([0xEC, 0x12, 0x34], .cpxAbs 0x3412), ([0xED, 0x12, 0x34], .sbcAbs 0x3412), ([0xEE, 0x12, 0x34], .incAbs 0x3412),
     ([0xEF, 0x12, 0x34, 0x56], .sbcLong 0x563412)] : List (List Byte × Instr)), reads true true p.1 p.2 = true := by decide +kernel

theorem test_decode_rowF : ∀ p ∈ ([
    ([0xF0, 0x12], .beq 0x12), ([0xF1, 0x12], .sbcDpIndY 0x12), ([0xF2, 0x12], .sbcDpInd 0x12),
     ([0xF3, 0x12], .sbcSrIndY 0x12), ([0xF4, 0x12, 0x34], .pea 0x3412), ([0xF5, 0x12], .sbcDpX 0x12),
     ([0xF6, 0x12], .incDpX 0x12), ([0xF7, 0x12], .sbcDpIndLY 0x12), ([0xF8], .sed), ([0xF9, 0x12, 0x34], .sbcAbsY 0x3412),
     ([0xFA], .plx), ([0xFB], .xce), ([0xFC, 0x12, 0x34], .jsrAbsIndX 0x3412), ([0xFD, 0x12, 0x34], .sbcAbsX 0x3412),
     ([0xFE, 0x12, 0x34], .incAbsX 0x3412), ([0xFF, 0x12, 0x34, 0x56], .sbcLongX 0x563412)] : List (List Byte × Instr)), reads true true p.1 p.2 = true := by decide +kernel

/-- The immediates at 16 bits (R124). -/
theorem test_decode_wide_immediates :
    reads false true [0xA9, 0x34, 0x12] (.ldaImmM (.w 0x1234)) = true ∧ reads true false [0xA2, 0x34, 0x12] (.ldxImmX (.w 0x1234)) = true ∧
    reads false true [0x89, 0x34, 0x12] (.bitImmM (.w 0x1234)) = true ∧ reads true false [0xE0, 0x00, 0x01] (.cpxImmX (.w 0x0100)) = true := by
  decide +kernel

/-- A byte string too short for its opcode is rejected. -/
theorem test_decode_short_rejected : reads true true [0xAD, 0x12] (.ldaAbs 0x0012) = false ∧ (decode true true []).toOption = none := by
  decide +kernel

/-- The table's numbering: bit 0 is the least significant bit of the first byte. -/
theorem test_decodeTableWord : decodeTableWord 8 0xEA = some .nop ∧ decodeTableWord 24 0x12348D = some (.staAbs 0x1234) ∧
    decodeTableWord 8 0xAD = some (.ldaAbs 0x0000) := by decide +kernel

/-! ### Memory and reset -/

theorem test_memory_canonical : (Memory.write (Memory.write [] 7 0x01) 3 0x02).wf = true ∧
    Memory.write (Memory.write [] 7 0x01) 7 Memory.unlisted = [] ∧ Memory.wf [(3, 0x01), (3, 0x02)] = false ∧
    Memory.wf [(3, Memory.unlisted)] = false := by decide

theorem test_reset_memories : State.reset.wram.wf = true ∧ State.reset.cells.wf = true ∧ State.reset.memoriesOk = true := by decide

/-- R48: what the spec fixes. -/
theorem test_reset_values : State.reset.e = true ∧ State.reset.p.m = true ∧ State.reset.p.x = true ∧ State.reset.p.i = true ∧
    State.reset.p.d = false ∧ hiByte State.reset.sp = 0x01 ∧ hiByte State.reset.x = 0 ∧ State.reset.d = 0 ∧ State.reset.dbr = 0 ∧
    State.reset.k = 0 ∧ State.reset.pc = 0x8000 ∧ State.reset.pending = none ∧ State.reset.fault = none := by decide

/-! ### One step, from the worked example of the instruction's rule -/

/-- The start state of spec/95_test_vectors.md section 0 in emulation mode; WRAM bytes a test reads are placed by it. -/
def em : State := { State.reset with a := 0, x := 0, y := 0, sp := 0x01FF, p := Flags.ofByte 0x34, mdr := 0, pc := 0x8000 }

/-- The start state in native mode with a P. -/
def nat (p : Byte) : State := { em with e := false, p := Flags.ofByte p, sp := 0x1FFF }

/-- WRAM bytes at an index. -/
def ram (s : State) (i : Nat) (bytes : List Byte) : State :=
  { s with wram := (bytes.foldl (fun (m : Memory × Nat) b => (m.1.write m.2 b, m.2 + 1)) (s.wram, i)).1 }

/-- What a view of the state is after one step over these bytes at K:PC; none where the step does not answer a next state. -/
def after {α : Type} (s : State) (bytes : List Byte) (view : State → α) : Option α :=
  match step (s.placeBytes s.k s.pc bytes) with
  | .next t => if t.fault = none then some (view t) else none
  | _ => none

/-- N, V, Z, C of a state. -/
def nvzc (t : State) : Bool × Bool × Bool × Bool := (t.p.n, t.p.v, t.p.z, t.p.c)

/-- The WRAM bytes at indices. -/
def ramAt (is : List Nat) (t : State) : List Byte := is.map t.wram.read

/-! Loads, stores, transfers and block moves (R200-R226). -/

theorem test_lda_wide : after ((ram (nat 0x10) 0x0200 [0x34, 0x12])) [0xAD, 0x00, 0x02]
    (fun t => (t.a, t.p.z, t.p.n, t.pc)) = some (0x1234, false, false, 0x8003) := by decide +kernel
theorem test_lda_next_bank : after ({ ram (ram (nat 0x10) 0xFFFF [0x34]) 0x10000 [0x12] with dbr := 0x7E }) [0xAD, 0xFF, 0xFF]
    (fun t => (t.a, t.mdr)) = some (0x1234, 0x12) := by decide +kernel
theorem test_ldx_negative : after (em) [0xA2, 0x80]
    (fun t => (t.x, t.p.n, t.p.z)) = some (0x0080, true, false) := by decide +kernel
theorem test_ldy_zero : after (nat 0x20) [0xA0, 0x00, 0x00]
    (fun t => (t.y, t.p.n, t.p.z)) = some (0x0000, false, true) := by decide +kernel
theorem test_sta_byte : after ({ em with a := 0x1234, dbr := 0x7E }) [0x8D, 0x00, 0x20]
    (fun t => (t.wram, t.mdr)) = some ([(0x2000, 0x34)], 0x34) := by decide +kernel
theorem test_stx_wide : after ({ nat 0x20 with x := 0xBEEF }) [0x86, 0x10]
    (fun t => t.wram) = some ([(0x0010, 0xEF), (0x0011, 0xBE)]) := by decide +kernel
theorem test_sty_byte : after ({ em with y := 0x0042 }) [0x8C, 0x00, 0x01]
    (fun t => t.wram) = some ([(0x0100, 0x42)]) := by decide +kernel
theorem test_stz_wide : after ({ nat 0x10 with dbr := 0x7E }) [0x9C, 0x00, 0x00]
    (fun t => (t.wram, t.mdr)) = some ([(0, 0), (1, 0)], 0x00) := by decide +kernel
theorem test_tax_wide : after ({ nat 0x20 with a := 0x12FF }) [0xAA]
    (fun t => (t.x, t.p.n, t.p.z)) = some (0x12FF, false, false) := by decide +kernel
theorem test_tay_byte : after ({ em with a := 0x1280 }) [0xA8]
    (fun t => (t.y, t.p.n, t.p.z)) = some (0x0080, true, false) := by decide +kernel
theorem test_txa_wide : after ({ nat 0x10 with x := 0x0080, a := 0x1234 }) [0x8A]
    (fun t => (t.a, t.p.n, t.p.z)) = some (0x0080, false, false) := by decide +kernel
theorem test_tya_keeps_B : after ({ em with a := 0xAB34 }) [0x98]
    (fun t => (t.a, t.p.n, t.p.z)) = some (0xAB00, false, true) := by decide +kernel
theorem test_txy : after ({ nat 0x20 with x := 0x8000 }) [0x9B]
    (fun t => (t.y, t.p.n, t.p.z)) = some (0x8000, true, false) := by decide +kernel
theorem test_tyx : after ({ em with x := 0x0012 }) [0xBB] (fun t => (t.x, t.p.z)) = some (0x0000, true) := by decide +kernel
theorem test_tsx : after ({ em with sp := 0x01F0 }) [0xBA]
    (fun t => (t.x, t.p.n, t.p.z)) = some (0x00F0, true, false) := by decide +kernel
theorem test_txs : after ({ nat 0x20 with x := 0x1FFF, sp := 0 }) [0x9A]
    (fun t => (t.sp, t.p.z)) = some (0x1FFF, false) := by decide +kernel
theorem test_tcs : after ({ nat 0x20 with a := 0x1234 }) [0x1B] (fun t => t.sp) = some (0x1234) := by decide +kernel
theorem test_tsc : after (em) [0x3B] (fun t => (t.a, t.p.n, t.p.z)) = some (0x01FF, false, false) := by decide +kernel
theorem test_tcd : after ({ em with d := 0x1234 }) [0x5B] (fun t => (t.d, t.p.z)) = some (0x0000, true) := by decide +kernel
theorem test_tdc : after ({ em with d := 0x8000 }) [0x7B]
    (fun t => (t.a, t.p.n, t.p.z)) = some (0x8000, true, false) := by decide +kernel
theorem test_xba : after ({ em with a := 0x12F0 }) [0xEB]
    (fun t => (t.a, t.p.n, t.p.z)) = some (0xF012, false, false) := by decide +kernel
theorem test_mvn : after ({ ram (nat 0x20) 0x1000 [0x11, 0x22, 0x33] with a := 2, x := 0x1000, y := 0x2000 }) [0x54, 0x7E, 0x7E]
    (fun t => (ramAt [0x2000, 0x2001, 0x2002] t, t.x, t.y, t.a, t.dbr)) = some ([0x11, 0x22, 0x33], 0x1003, 0x2003, 0xFFFF, 0x7E) := by decide +kernel
theorem test_mvp : after ({ ram (nat 0x20) 0x1000 [0x11, 0x22] with a := 1, x := 0x1001, y := 0x2001 }) [0x44, 0x7E, 0x7E]
    (fun t => (ramAt [0x2000, 0x2001] t, t.x, t.y, t.a, t.dbr)) = some ([0x11, 0x22], 0x0FFF, 0x1FFF, 0xFFFF, 0x7E) := by decide +kernel

/-! Arithmetic, compare, logic and shifts (R250-R276). -/

theorem test_adc_overflow : after ({ em with a := 0x007F }) [0x69, 0x01]
    (fun t => (t.a, nvzc t)) = some (0x0080, true, true, false, false) := by decide +kernel
theorem test_adc_carry_in : after ({ em with a := 0x12FF, p := Flags.ofByte 0x35 }) [0x69, 0x00]
    (fun t => (t.a, nvzc t)) = some (0x1200, false, false, true, true) := by decide +kernel
theorem test_sbc : after ({ em with a := 0x0050, p := Flags.ofByte 0x35 }) [0xE9, 0x30]
    (fun t => (t.a, nvzc t)) = some (0x0020, false, false, false, true) := by decide +kernel
theorem test_sbc_overflow : after ({ em with a := 0x0080, p := Flags.ofByte 0x35 }) [0xE9, 0x01]
    (fun t => (t.a, nvzc t)) = some (0x007F, false, true, false, true) := by decide +kernel
theorem test_cmp : after ({ em with a := 0x0010 }) [0xC9, 0x20]
    (fun t => (t.a, nvzc t)) = some (0x0010, true, false, false, false) := by decide +kernel
theorem test_cpx : after ({ nat 0x20 with x := 0x0100 }) [0xE0, 0x00, 0x01]
    (fun t => nvzc t) = some (false, false, true, true) := by decide +kernel
theorem test_cpy : after ({ em with y := 0x05 }) [0xC0, 0x06]
    (fun t => nvzc t) = some (true, false, false, false) := by decide +kernel
theorem test_inc_wraps : after ({ em with a := 0x12FF }) [0x1A]
    (fun t => (t.a, t.p.z, t.p.n)) = some (0x1200, true, false) := by decide +kernel
theorem test_dec_wraps : after ({ ram (nat 0x10) 0x10 [0, 0] with dbr := 0x7E }) [0xCE, 0x10, 0x00]
    (fun t => (ramAt [0x10, 0x11] t, t.p.n, t.p.z)) = some ([0xFF, 0xFF], true, false) := by decide +kernel
theorem test_inx_wraps : after ({ em with x := 0xFF }) [0xE8] (fun t => (t.x, t.p.z)) = some (0x0000, true) := by decide +kernel
theorem test_iny : after ({ nat 0x20 with y := 0x7FFF }) [0xC8]
    (fun t => (t.y, t.p.n)) = some (0x8000, true) := by decide +kernel
theorem test_dex : after ({ nat 0x20 with x := 0x0001 }) [0xCA]
    (fun t => (t.x, t.p.z)) = some (0x0000, true) := by decide +kernel
theorem test_dey_wraps : after (em) [0x88] (fun t => (t.y, t.p.n)) = some (0x00FF, true) := by decide +kernel
theorem test_and : after ({ em with a := 0x12F0 }) [0x29, 0x3C]
    (fun t => (t.a, t.p.n, t.p.z)) = some (0x1230, false, false) := by decide +kernel
theorem test_ora : after (em) [0x09, 0x80] (fun t => (t.a, t.p.n, t.p.z)) = some (0x0080, true, false) := by decide +kernel
theorem test_eor : after ({ nat 0x10 with a := 0xFFFF }) [0x49, 0xFF, 0xFF]
    (fun t => (t.a, t.p.n, t.p.z)) = some (0x0000, false, true) := by decide +kernel
theorem test_bit_memory : after ({ ram em 0x10 [0xC0] with a := 0x0001 }) [0x24, 0x10]
    (fun t => (t.a, nvzc t)) = some (0x0001, true, true, true, false) := by decide +kernel
theorem test_bit_immediate : after ({ em with a := 0x0001 }) [0x89, 0xC0]
    (fun t => nvzc t) = some (false, false, true, false) := by decide +kernel
theorem test_tsb : after ({ ram em 0x10 [0xF0] with a := 0x000F }) [0x04, 0x10]
    (fun t => (ramAt [0x10] t, t.p.z)) = some ([0xFF], true) := by decide +kernel
theorem test_trb : after ({ ram em 0x10 [0xFF] with a := 0x000F }) [0x14, 0x10]
    (fun t => (ramAt [0x10] t, t.p.z)) = some ([0xF0], false) := by decide +kernel
theorem test_asl : after ({ em with a := 0x1281 }) [0x0A]
    (fun t => (t.a, nvzc t)) = some (0x1202, false, false, false, true) := by decide +kernel
theorem test_lsr : after ({ em with a := 0x0001 }) [0x4A]
    (fun t => (t.a, nvzc t)) = some (0x0000, false, false, true, true) := by decide +kernel
theorem test_rol : after ({ em with a := 0x0080, p := Flags.ofByte 0x35 }) [0x2A]
    (fun t => (t.a, nvzc t)) = some (0x0001, false, false, false, true) := by decide +kernel
theorem test_ror : after ({ nat 0x10 with a := 0x0001, p := Flags.ofByte 0x11 }) [0x6A]
    (fun t => (t.a, nvzc t)) = some (0x8000, true, false, false, true) := by decide +kernel

/-- R250: ADC with D = 1 records the fault, and its access is not made. -/
theorem test_adc_decimal : (match step ({ em with a := 0x0009, p := Flags.ofByte 0x3C }.placeBytes 0x00 0x8000 [0x65, 0x10]) with
    | .next t => t.fault == some (.decimalMode 0x008000 0x65) && t.a == 0x0009 && t.mdr == 0x10
    | _ => false) = true := by decide +kernel

/-! Branches, jumps, calls and returns (R301-R316). -/

theorem test_bpl : after (em) [0x10, 0x05] (fun t => t.pc) = some (0x8007) := by decide +kernel
theorem test_bmi : after ({ em with pc := 0x8010, p := Flags.ofByte 0xB4 }) [0x30, 0xF0]
    (fun t => t.pc) = some (0x8002) := by decide +kernel
theorem test_bvc : after ({ em with p := Flags.ofByte 0x74 }) [0x50, 0x10] (fun t => t.pc) = some (0x8002) := by decide +kernel
theorem test_bvs : after ({ em with p := Flags.ofByte 0x74 }) [0x70, 0x7F] (fun t => t.pc) = some (0x8081) := by decide +kernel
theorem test_bcc : after (em) [0x90, 0x80] (fun t => t.pc) = some (0x7F82) := by decide +kernel
theorem test_bcs_wraps : after ({ em with pc := 0xFFFC, p := Flags.ofByte 0x35 }) [0xB0, 0x02]
    (fun t => (t.pc, t.k)) = some (0x0000, 0x00) := by decide +kernel
theorem test_bne : after ({ em with pc := 0x8004 }) [0xD0, 0xFC] (fun t => t.pc) = some (0x8002) := by decide +kernel
theorem test_beq : after (em) [0xF0, 0x10] (fun t => t.pc) = some (0x8002) := by decide +kernel
theorem test_bra : after (em) [0x80, 0xFE] (fun t => t.pc) = some (0x8000) := by decide +kernel
theorem test_brl : after (em) [0x82, 0xFD, 0xFF] (fun t => t.pc) = some (0x8000) := by decide +kernel
theorem test_jmp_indirect : after (ram em 0x200 [0x34, 0x12]) [0x6C, 0x00, 0x02]
    (fun t => (t.pc, t.k)) = some (0x1234, 0x00) := by decide +kernel
theorem test_jmp_indexed : after ({ ram em 0x1203 [0x78, 0x56] with x := 3 }) [0x7C, 0x00, 0x12]
    (fun t => t.pc) = some (0x5678) := by decide +kernel
theorem test_jml : after (em) [0x5C, 0x00, 0x90, 0xC0] (fun t => (t.k, t.pc)) = some (0xC0, 0x9000) := by decide +kernel
theorem test_jsr : after ({ em with pc := 0x8002 }) [0x20, 0x00, 0x90]
    (fun t => (ramAt [0x1FF, 0x1FE] t, t.sp, t.pc)) = some ([0x80, 0x04], 0x01FD, 0x9000) := by decide +kernel
theorem test_jsl : after (nat 0x30) [0x22, 0x00, 0x80, 0xC0]
    (fun t => (ramAt [0x1FFF, 0x1FFE, 0x1FFD] t, t.sp, t.k, t.pc)) = some ([0x00, 0x80, 0x03], 0x1FFC, 0xC0, 0x8000) := by decide +kernel
theorem test_rts : after ({ ram em 0x1FE [0x04, 0x80] with sp := 0x01FD }) [0x60]
    (fun t => (t.pc, t.sp)) = some (0x8005, 0x01FF) := by decide +kernel
theorem test_rtl : after ({ ram (nat 0x30) 0x1FFD [0x03, 0x80, 0x00] with sp := 0x1FFC, k := 0xC0 }) [0x6B]
    (fun t => (t.pc, t.k, t.sp)) = some (0x8004, 0x00, 0x1FFF) := by decide +kernel

/-! Stack, flag and system instructions (R340-R386). -/

theorem test_pha : after ({ nat 0x10 with a := 0x1234 }) [0x48]
    (fun t => (ramAt [0x1FFF, 0x1FFE] t, t.sp)) = some ([0x12, 0x34], 0x1FFD) := by decide +kernel
theorem test_phx : after ({ em with x := 0x0042 }) [0xDA]
    (fun t => (ramAt [0x1FF] t, t.sp)) = some ([0x42], 0x01FE) := by decide +kernel
theorem test_phy : after ({ nat 0x20 with y := 0xBEEF, sp := 0x0100 }) [0x5A]
    (fun t => (ramAt [0x100, 0xFF] t, t.sp)) = some ([0xBE, 0xEF], 0x00FE) := by decide +kernel
theorem test_php : after (em) [0x08] (fun t => ramAt [0x1FF] t) = some ([0x34]) := by decide +kernel
theorem test_phb : after ({ em with dbr := 0x7E }) [0x8B]
    (fun t => (ramAt [0x1FF] t, t.sp)) = some ([0x7E], 0x01FE) := by decide +kernel
theorem test_phk : after ({ em with k := 0x80 }) [0x4B] (fun t => ramAt [0x1FF] t) = some ([0x80]) := by decide +kernel
theorem test_phd : after ({ nat 0x30 with d := 0x2100 }) [0x0B]
    (fun t => (ramAt [0x1FFF, 0x1FFE] t, t.sp)) = some ([0x21, 0x00], 0x1FFD) := by decide +kernel
theorem test_pea : after (nat 0x30) [0xF4, 0x34, 0x12]
    (fun t => ramAt [0x1FFF, 0x1FFE] t) = some ([0x12, 0x34]) := by decide +kernel
theorem test_pei : after (ram (nat 0x30) 0x10 [0xCD, 0xAB]) [0xD4, 0x10]
    (fun t => ramAt [0x1FFF, 0x1FFE] t) = some ([0xAB, 0xCD]) := by decide +kernel
theorem test_per : after (nat 0x30) [0x62, 0x10, 0x00]
    (fun t => ramAt [0x1FFF, 0x1FFE] t) = some ([0x80, 0x13]) := by decide +kernel
theorem test_pla : after ({ ram (nat 0x10) 0x1FFE [0x34, 0x12] with sp := 0x1FFD }) [0x68]
    (fun t => (t.a, t.sp, t.p.n, t.p.z)) = some (0x1234, 0x1FFF, false, false) := by decide +kernel
theorem test_plx : after ({ ram em 0x1FF [0x80] with sp := 0x01FE }) [0xFA]
    (fun t => (t.x, t.p.n)) = some (0x0080, true) := by decide +kernel
theorem test_plp : after ({ ram (nat 0x00) 0x1FFF [0x10] with sp := 0x1FFE, x := 0x1234 }) [0x28]
    (fun t => (t.p.toByte, t.x)) = some (0x10, 0x0034) := by decide +kernel
theorem test_ply : after ({ ram (nat 0x20) 0x1FFE [0x00, 0x00] with sp := 0x1FFD, y := 1 }) [0x7A]
    (fun t => (t.y, t.p.z)) = some (0x0000, true) := by decide +kernel
theorem test_plb : after ({ ram em 0x1FF [0x7E] with sp := 0x01FE }) [0xAB]
    (fun t => (t.dbr, t.p.n, t.p.z)) = some (0x7E, false, false) := by decide +kernel
theorem test_pld : after ({ ram (nat 0x30) 0x1FFE [0x00, 0x21] with sp := 0x1FFD }) [0x2B]
    (fun t => (t.d, t.p.n, t.p.z)) = some (0x2100, false, false) := by decide +kernel
theorem test_clc : after ({ em with p := Flags.ofByte 0xFF }) [0x18] (fun t => t.p.toByte) = some (0xFE) := by decide +kernel
theorem test_sec : after (em) [0x38] (fun t => t.p.toByte) = some (0x35) := by decide +kernel
theorem test_cli : after (em) [0x58] (fun t => t.p.toByte) = some (0x30) := by decide +kernel
theorem test_sei : after ({ em with p := Flags.ofByte 0x30 }) [0x78] (fun t => t.p.toByte) = some (0x34) := by decide +kernel
theorem test_cld : after ({ em with p := Flags.ofByte 0x3C }) [0xD8] (fun t => t.p.toByte) = some (0x34) := by decide +kernel
theorem test_sed : after (em) [0xF8] (fun t => t.p.toByte) = some (0x3C) := by decide +kernel
theorem test_clv : after ({ em with p := Flags.ofByte 0x74 }) [0xB8] (fun t => t.p.toByte) = some (0x34) := by decide +kernel
theorem test_rep : after (nat 0x30) [0xC2, 0x30] (fun t => t.p.toByte) = some (0x00) := by decide +kernel
theorem test_rep_emulation : after (em) [0xC2, 0x30] (fun t => t.p.toByte) = some (0x34) := by decide +kernel
theorem test_sep : after ({ nat 0x00 with x := 0x1234, a := 0xABCD }) [0xE2, 0x30]
    (fun t => (t.p.toByte, t.x, t.a)) = some (0x30, 0x0034, 0xABCD) := by decide +kernel
theorem test_xce_to_native : after (em) [0xFB]
    (fun t => (t.e, t.p.toByte, t.sp)) = some (false, 0x35, 0x01FF) := by decide +kernel
theorem test_xce_to_emulation : after ({ nat 0x01 with x := 0x1234, y := 0x5678 }) [0xFB]
    (fun t => (t.e, t.p.toByte, t.x, t.y, t.sp)) = some (true, 0x30, 0x0034, 0x0078, 0x01FF) := by decide +kernel
theorem test_brk : after (em) [0x00, 0xEA]
    (fun t => (ramAt [0x1FF, 0x1FE, 0x1FD] t, t.pc, t.p.i, t.sp)) = some ([0x80, 0x02, 0x34], 0x9200, true, 0x01FC) := by decide +kernel
theorem test_rti : after ({ ram em 0x1FD [0x34, 0x02, 0x80] with sp := 0x01FC }) [0x40]
    (fun t => (t.p.toByte, t.pc, t.sp)) = some (0x34, 0x8002, 0x01FF) := by decide +kernel
theorem test_cop : after ({ nat 0x30 with k := 0x80, pc := 0x9000 }) [0x02, 0x00]
    (fun t => (ramAt [0x1FFF, 0x1FFE, 0x1FFD, 0x1FFC] t, t.k, t.pc)) = some ([0x80, 0x90, 0x02, 0x30], 0x00, 0xA300) := by decide +kernel
theorem test_wai : after (em) [0xCB] (fun t => (t.waiting, t.pc)) = some (true, 0x8001) := by decide +kernel
theorem test_stp : after (em) [0xDB] (fun t => (t.stopped, t.pc)) = some (true, 0x8001) := by decide +kernel
theorem test_nop : after (em) [0xEA] (fun t => (t.pc, t.p.toByte, t.mdr)) = some (0x8001, 0x34, 0xEA) := by decide +kernel
theorem test_wdm : after (em) [0x42, 0xFF] (fun t => (t.pc, t.mdr)) = some (0x8002, 0xFF) := by decide +kernel

/-! Addressing (R155, R161, R169, R170): the direct page in emulation mode wraps within its page, an absolute index carries into
the bank. -/

theorem test_dp_page_wrap : after ({ ram em 0x0005 [0x77] with x := 0x06 }) [0xB5, 0xFF]
    (fun t => t.a) = some (0x0077) := by decide +kernel
theorem test_absX_carries : after ({ ram (nat 0x20) 0x10010 [0x66] with dbr := 0x7E, x := 0x0020 }) [0xBD, 0xF0, 0xFF]
    (fun t => t.a) = some (0x0066) := by decide +kernel
theorem test_dpIndLY : after ({ ram (ram em 0x10 [0xFF, 0xFF, 0x7E]) 0x10004 [0x56] with y := 5 }) [0xB7, 0x10]
    (fun t => t.a) = some (0x0056) := by decide +kernel
theorem test_sr : after ({ ram (nat 0x30) 0x1F03 [0x99] with sp := 0x1F00 }) [0xA3, 0x03]
    (fun t => t.a) = some (0x0099) := by decide +kernel

/-- V6 of spec/95_test_vectors.md: a write of 0x01 to 0x420B moves four bytes to 0x2118 and leaves DAS0 = 0. -/
theorem test_dma : after ({ ram em 0x1000 [0x11, 0x22, 0x33, 0x44] with
      a := 1, cells := [(0x4300, 0x00), (0x4301, 0x18), (0x4302, 0x00), (0x4303, 0x10), (0x4304, 0x7E), (0x4305, 0x04), (0x4306, 0x00)] })
    [0x8D, 0x0B, 0x42] (fun t => (([0x2118, 0x4302, 0x4303, 0x4305, 0x4306].map t.cells.read), t.mdr)) =
    some ([0x44, 0x04, 0x10, 0x00, 0x00], 0x44) := by decide +kernel

/-! ### Witnesses: a state and operands that meet the hypotheses of each statement that has some, each clause at the edges of its
range -/

/-- An operation answered a value. -/
def isOk {α : Type} (r : Res α) : Bool :=
  match r with
  | .ok _ _ => true
  | .raise _ _ => false

/-- A cartridge with every kind of cell, in bank 0x40. -/
def cartAll : Cart where
  cells := [(0x400000, .rom 0x11), (0x400001, .ram 0x22), (0x400002, .unsupported)]
  inner := 0

/-- The start state with that cartridge, and the data bank in it. -/
def cs : State := { em with cart := cartAll, dbr := 0x40 }

/-- A native state whose direct page, stack and index reach an unsupported mapping of the cartridge. -/
def bad : State :=
  { nat 0x00 with cart := { cells := [(0x9000, .unsupported), (0x9001, .unsupported)], inner := 0 }, d := 0x9000, sp := 0x9000 }

theorem witness_DecodeInvertsEncode : Instr.wellFormed false true (.ldaImmM (.w 0x1234)) = true := by decide
theorem witness_EncodeInvertsDecode :
    (match decode true true [0xA9, 0x80, 0x01] with
     | .ok (.ldaImmM (.b v), rest) => v == 0x80 && rest == [0x01]
     | _ => false) = true := by decide
theorem witness_LengthFollowsModeAndFlags : Instr.wellFormed true false (.cpyImmX (.w 0xFFFF)) = true := by decide
theorem witness_AccessorsFollowTheWidths : { em with x := 0x00FF, y := 0x0001 }.widthsOk = true := by decide

/-- The decoder's clauses at both ends of each range, in the first and last bank of each. -/
theorem witness_AddressDecoderTable :
    (∀ b ∈ [(0x00 : Byte), 0x3F, 0x80, 0xBF],
      decodeAddr (mkAddr b 0x0000) = .wram 0 ∧ decodeAddr (mkAddr b 0x1FFF) = .wram 0x1FFF ∧
      decodeAddr (mkAddr b 0x2000) = .openBus ∧ decodeAddr (mkAddr b 0x20FF) = .openBus ∧
      decodeAddr (mkAddr b 0x2100) = .reg 0x2100 ∧ decodeAddr (mkAddr b 0x21FF) = .reg 0x21FF ∧
      decodeAddr (mkAddr b 0x2200) = .openBus ∧ decodeAddr (mkAddr b 0x3FFF) = .openBus ∧
      decodeAddr (mkAddr b 0x4000) = .reg 0x4000 ∧ decodeAddr (mkAddr b 0x43FF) = .reg 0x43FF ∧
      decodeAddr (mkAddr b 0x4400) = .openBus ∧ decodeAddr (mkAddr b 0x7FFF) = .openBus ∧
      decodeAddr (mkAddr b 0x8000) = .cart (mkAddr b 0x8000) ∧ decodeAddr (mkAddr b 0xFFFF) = .cart (mkAddr b 0xFFFF)) ∧
    (∀ b ∈ [(0x40 : Byte), 0x7D, 0xC0, 0xFF],
      decodeAddr (mkAddr b 0x0000) = .cart (mkAddr b 0) ∧ decodeAddr (mkAddr b 0xFFFF) = .cart (mkAddr b 0xFFFF)) ∧
    decodeAddr 0x7E0000 = .wram 0 ∧ decodeAddr 0x7EFFFF = .wram 0xFFFF ∧ decodeAddr 0x7F0000 = .wram 0x10000 ∧
    decodeAddr 0x7FFFFF = .wram 0x1FFFF := by decide

theorem witness_BusReadReturnsAndLatches :
    decodeAddr 0x7FFFFF = .wram 0x1FFFF ∧ decodeAddr 0x0043FF = .reg 0x43FF ∧ decodeAddr 0x002200 = .openBus ∧
    (decodeAddr 0x400000 = .cart 0x400000 ∧ cartRead cs.cart 0x400000 = (.byte 0x11, cs.cart)) ∧
    cartRead cs.cart 0x400001 = (.byte 0x22, cs.cart) ∧ cartRead cs.cart 0x400003 = (.undriven, cs.cart) ∧
    cartRead cs.cart 0x400002 = (.unsupported, cs.cart) := by decide

theorem witness_BusWriteStoresAndLatches :
    decodeAddr 0x001FFF = .wram 0x1FFF ∧ (decodeAddr 0x00420A = .reg 0x420A ∧ 0x420A ≠ 0x420B) ∧ decodeAddr 0xBF420B = .reg 0x420B ∧
    decodeAddr 0x007FFF = .openBus ∧ decodeAddr 0x400000 = .cart 0x400000 ∧ cartWrite cs.cart 0x400000 0x99 = some cs.cart ∧
    (cartWrite cs.cart 0x400001 0x99).isSome = true ∧ cartWrite cs.cart 0x400002 0x99 = none := by decide

theorem witness_MirrorBanksReadAlike : (0x3F : Byte).toNat ≤ 0x3F ∧
    ([0x0000, 0x1FFF, 0x2000, 0x20FF, 0x2200, 0x3FFF, 0x4400, 0x7FFF, 0x8000, 0xFFFF] : List Word).all (fun off =>
      !isCellOffset off.toNat && isOk (memRead (mkAddr 0x3F off) cs) && isOk (memRead (mkAddr 0xBF off) cs)) = true := by
  decide +kernel

theorem witness_RoundTripAndOpenBus : cs.memoriesOk = true ∧ (bankOf 0x7E0000 = 0x7E ∨ bankOf 0x7E0000 = 0x7F) ∧
    (bankOf 0x7FFFFF = 0x7E ∨ bankOf 0x7FFFFF = 0x7F) ∧ decodeAddr 0x000300 ≠ .reg 0x420B ∧
    isOk (memWrite 0x000300 0x42 cs) = true := by decide

/-- A read and a write that raise, and a write to 0x420B that raises each DMA condition. -/
theorem witness_BusFaultsAreNamed :
    isOk (memRead 0x400002 cs) = false ∧ (isOk (memWrite 0x400002 0x01 cs) = false ∧ decodeAddr 0x400002 ≠ .reg 0x420B) ∧
    (decodeAddr 0x00420B = .reg 0x420B ∧
      isOk (memWrite 0x00420B 0x01 { cs with cells := [(0x4300, 0x05)] }) = false ∧
      isOk (memWrite 0x00420B 0x01 { cs with cells := [(0x4300, 0x00), (0x4302, 0x02), (0x4303, 0x00), (0x4304, 0x40)] }) = false ∧
      isOk (memWrite 0x00420B 0x01 { cs with cells := [(0x4300, 0x00), (0x4302, 0x00), (0x4303, 0x21), (0x4304, 0x00)] }) = false) := by
  decide +kernel

theorem witness_InstructionAndOperandBytes :
    isOk (memRead (mkAddr cs.k cs.pc) cs) = true ∧ (0 < 3 ∧ 2 < 3) ∧ isOk (readN ⟨0x400000, .lin⟩ 2 cs) = true ∧
    isOk (readN ⟨0x0000FF, .dpPage⟩ 3 cs) = true ∧ isOk (writeN ⟨0x00FFFF, .bank 0x7E⟩ 2 0x1234 cs) = true := by decide +kernel

theorem witness_DirectPageAddresses : (em.e = true ∧ loByte em.d = 0) ∧ (({ em with d := 0x0001 } : State).e = false ∨
    loByte ({ em with d := 0x0001 } : State).d ≠ 0) ∧ ((nat 0x30).e = false ∨ loByte (nat 0x30).d ≠ 0) := by decide

theorem witness_IndirectAddresses : isOk (readN (dpAddr 0x00FF em) 2 em) = true ∧ isOk (readN (dpAddr (0x00FF + viewX em) em) 2 em) = true ∧
    isOk (readN (dpAddr 0x00FF em) 3 em) = true ∧ isOk (readN ⟨mkAddr 0 (em.sp + 0xFF), .bank 0⟩ 2 em) = true := by decide +kernel

theorem witness_PlainCartridgeAccessesComplete : em.cartPlain = true ∧
    { em with cart := { cells := [(0x400000, .rom 0x11), (0x400001, .ram 0x22)], inner := 0 } }.cartPlain = true ∧
    awayFromDma ⟨0x00420C, .lin⟩ 2 ∧ decodeAddr (mkAddr 0 em.sp) ≠ .reg 0x420B := by
  refine ⟨by decide, by decide, ?_, by decide⟩
  unfold awayFromDma
  decide

theorem witness_StackPrimitives : isOk (memWrite (mkAddr 0 em.sp) 0x01 em) = true ∧ isOk (push8 (hiByte 0x1234) em) = true ∧
    isOk (pop8 em) = true ∧ isOk (pop16 em) = true := by decide +kernel

/-- The edges of the WRAM stack: both ends of page 1 in emulation mode, and of the mirror in native mode. -/
theorem witness_StackedWordsComeBack :
    ∀ s ∈ [{ em with sp := 0x0100 }, em, { nat 0x00 with sp := 0x0001 }, nat 0x00], s.memoriesOk = true ∧ stackInWram s 2 = true := by
  decide

/-- Every operand of every form can be read: the small state reads WRAM, the registers and the cartridge. -/
def allRead (forms : List (Form Operand)) (w : Width) (s : State) : Bool := forms.all fun f => isOk (getValue f.operand w s)

/-- Some form's operand raises. -/
def someRaise (forms : List (Form Operand)) (w : Width) (s : State) : Bool := forms.any fun f => !isOk (getValue f.operand w s)

theorem witness_LoadsWriteTheOperand :
    (∀ s ∈ [em, nat 0x00], allRead (ldaForms 0xFF 0xFFFF 0xFFFFFF (.b 0x80)) s.wM s = true ∧
      allRead (ldxForms 0xFF 0xFFFF (.b 0x80)) s.wX s = true ∧ allRead (ldyForms 0xFF 0xFFFF (.b 0x80)) s.wX s = true) ∧
    someRaise (ldaForms 0x00 0x9000 0x009000 (.w 0)) .w16 bad = true ∧ someRaise (ldxForms 0x00 0x9000 (.w 0)) .w16 bad = true ∧
    someRaise (ldyForms 0x00 0x9000 (.w 0)) .w16 bad = true := by decide +kernel

/-- Every store of a list of forms completes. -/
def allStored (forms : List (Form MemMode)) (w : Width) (s : State) : Bool :=
  forms.all fun f => isOk ((getAddress f.operand s).bind fun ea s1 => writeN ea w.bytes 0x1234 s1)

theorem witness_StoresWriteTheRegister :
    (∀ s ∈ [em, nat 0x00], allStored (staMemForms 0xFF 0xFFFF 0xFFFFFF) s.wM s = true ∧ allStored (stxMemForms 0xFF 0xFFFF) s.wX s = true ∧
      allStored (styMemForms 0xFF 0xFFFF) s.wX s = true ∧ allStored (stzMemForms 0xFF 0xFFFF) s.wM s = true) ∧
    allStored (staMemForms 0x00 0x9000 0x009000) .w16 bad = false ∧ allStored (stxMemForms 0x00 0x9000) .w16 bad = false ∧
    allStored (styMemForms 0x00 0x9000) .w16 bad = false ∧ allStored (stzMemForms 0x00 0x9000) .w16 bad = false := by decide +kernel

/-- One byte moves with C16 = 0, and a first byte that raises. -/
theorem witness_BlockMovesMoveEveryByte :
    (∃ t, Moves 1 0x7E 0x7F (em.a.toNat + 1) { em with dbr := 0x7E } t) ∧
    (∃ t, Moves 0xFFFF 0x7E 0x7F (em.a.toNat + 1) { em with dbr := 0x7E } t) ∧
    (0 ≤ cs.a.toNat ∧ Moves 1 0x7E 0x40 0 { cs with x := 2, dbr := 0x7E } { cs with x := 2, dbr := 0x7E } ∧
      isOk ((memRead (mkAddr 0x40 (viewX { cs with x := 2 })) { cs with x := 2, dbr := 0x7E }).bind fun v t1 =>
        memWrite (mkAddr 0x7E (viewY t1)) v t1) = false) := by
  refine ⟨⟨_, .byte (by rfl) (by rfl) (.done _)⟩, ⟨_, .byte (by rfl) (by rfl) (.done _)⟩, by decide, .done _, by decide⟩

theorem witness_BlockMovesEnd : em.cartPlain = true ∧
    (∀ k ≤ em.a.toNat, decodeAddr (moveTarget 1 0x7E em k) ≠ .reg 0x420B) ∧
    (∀ k ≤ em.a.toNat, decodeAddr (moveTarget 0xFFFF 0x00 em k) ≠ .reg 0x420B) := by
  refine ⟨by decide, ?_, ?_⟩ <;> intro k hk <;> obtain rfl : k = 0 := Nat.le_zero.mp hk <;> decide

theorem witness_AddWithCarry :
    (em.p.d = false ∧ allRead (adcForms 0xFF 0xFFFF 0xFFFFFF (.b 0x80)) em.wM em = true) ∧
    (bad.p.d = false ∧ someRaise (adcForms 0x00 0x9000 0x009000 (.w 0)) .w16 bad = true) ∧
    { em with p := Flags.ofByte 0x3C }.p.d = true := by decide +kernel

theorem witness_SubtractWithBorrow :
    (em.p.d = false ∧ allRead (sbcForms 0xFF 0xFFFF 0xFFFFFF (.b 0x80)) em.wM em = true) ∧
    (bad.p.d = false ∧ someRaise (sbcForms 0x00 0x9000 0x009000 (.w 0)) .w16 bad = true) ∧
    { em with p := Flags.ofByte 0x3C }.p.d = true := by decide +kernel

theorem witness_OverflowAndCarryAreArithmetic : (0x00FF : Word).toNat < modulus .w8 ∧ (0x0080 : Word).toNat < modulus .w8 ∧
    (0xFFFF : Word).toNat < modulus .w16 ∧ (0x8000 : Word).toNat < modulus .w16 := by decide

theorem witness_ComparesSetTheFlags :
    (∀ s ∈ [em, nat 0x00], allRead (cmpForms 0xFF 0xFFFF 0xFFFFFF (.b 0x80)) s.wM s = true ∧
      allRead (cpxForms 0xFF 0xFFFF (.b 0x80)) s.wX s = true ∧ allRead (cpyForms 0xFF 0xFFFF (.b 0x80)) s.wX s = true) ∧
    someRaise (cmpForms 0x00 0x9000 0x009000 (.w 0)) .w16 bad = true ∧ someRaise (cpxForms 0x00 0x9000 (.w 0)) .w16 bad = true ∧
    someRaise (cpyForms 0x00 0x9000 (.w 0)) .w16 bad = true := by decide +kernel

/-- Every read-modify-write of a list of forms completes: the address, the operand and the write. -/
def allModified (forms : List (Form MemMode)) (s : State) : Bool :=
  forms.all fun f => isOk ((getAddress f.operand s).bind fun ea s1 => (readAt ea s.wM s1).bind fun v s2 => writeN ea s.wM.bytes v s2)

/-- The memory forms of every modifying instruction. -/
def rmwForms (o : Byte) (a16 : Word) : List (Form MemMode) :=
  incMemForms o a16 ++ decMemForms o a16 ++ aslMemForms o a16 ++ lsrMemForms o a16 ++ rolMemForms o a16 ++ rorMemForms o a16 ++
    tsbMemForms o a16 ++ trbMemForms o a16

theorem witness_ModifyingInstructions : (∀ s ∈ [em, nat 0x00], allModified (rmwForms 0xFF 0xFFFF) s = true) ∧
    ∀ l ∈ [incMemForms, decMemForms, aslMemForms, lsrMemForms, rolMemForms, rorMemForms, tsbMemForms, trbMemForms],
      allModified (l 0x00 0x9000) bad = false := by decide +kernel

theorem witness_LogicWritesTheAccumulator :
    (∀ s ∈ [em, nat 0x00], ∀ l ∈ [andForms, oraForms, eorForms], allRead (l 0xFF 0xFFFF 0xFFFFFF (.b 0x80)) s.wM s = true) ∧
    ∀ l ∈ [andForms, oraForms, eorForms], someRaise (l 0x00 0x9000 0x009000 (.w 0)) .w16 bad = true := by decide +kernel

theorem witness_BitTests :
    (∀ s ∈ [em, nat 0x00], (bitMemForms 0xFF 0xFFFF).all (fun f => isOk (getValue (.mem f.operand) s.wM s)) = true ∧
      isOk (getValue (.imm (.b 0x80)) s.wM s) = true) ∧
    (bitMemForms 0x00 0x9000).any (fun f => !isOk (getValue (.mem f.operand) .w16 bad)) = true := by decide +kernel

theorem witness_BranchesAndJumps :
    isOk (readN ⟨mkAddr 0 0xFFFF, .bank 0⟩ 2 em) = true ∧ isOk (readN ⟨mkAddr em.k (0xFFFF + viewX em), .bank em.k⟩ 2 em) = true ∧
    isOk (readN ⟨mkAddr 0 0xFFFF, .bank 0⟩ 3 em) = true ∧ isOk (readN ⟨mkAddr 0 0x9000, .bank 0⟩ 2 bad) = false ∧
    isOk (readN ⟨mkAddr bad.k (0x9000 + viewX bad), .bank bad.k⟩ 2 bad) = false ∧
    isOk (readN ⟨mkAddr 0 0x9000, .bank 0⟩ 3 bad) = false := by decide +kernel

/-- Pushes and pops complete on a stack in WRAM, and raise on one in an unsupported mapping. -/
theorem witness_CallsAndReturns : isOk (push16 (em.pc - 1) em) = true ∧ isOk (push8 em.k em) = true ∧ isOk (pop16 em) = true ∧
    isOk (push16 (bad.pc - 1) bad) = false ∧ isOk (push8 bad.k bad) = false ∧ isOk (pop16 bad) = false := by decide +kernel

theorem witness_ReturnsUndoCalls : ∀ s ∈ [{ em with sp := 0x0100 }, em, { nat 0x00 with sp := 0x0002 }, nat 0x00],
    s.memoriesOk = true ∧ stackInWram s 2 = true ∧ stackInWram s 3 = true := by decide

theorem witness_PushesPushTheValue : isOk (push8 0x12 em) = true ∧ isOk (push16 0x1234 em) = true ∧
    isOk ((readN (dpAddr 0x0010 em) 2 em).bind fun p t => push16 (offOf p) t) = true ∧ isOk (push8 0x12 bad) = false ∧
    isOk (push16 0x1234 bad) = false ∧ isOk (readN (dpAddr 0x0000 bad) 2 bad) = false := by decide +kernel

theorem witness_PullsWriteTheRegister : isOk (pop8 em) = true ∧ isOk (pop16 em) = true ∧ isOk (pop8 bad) = false ∧
    isOk (pop16 bad) = false := by decide +kernel

theorem witness_XceExchangesCarryAndEmulation : em.p.c = false ∧ { em with p := Flags.ofByte 0x35 }.p.c = true := by decide

theorem witness_TrapsAndReturnFromInterrupt : isOk (entered .brk em) = true ∧ isOk (entered .brk (nat 0x00)) = true ∧
    isOk (entered .brk bad) = false ∧ isOk (entered .cop (nat 0x00)) = true ∧ isOk (entered .cop bad) = false ∧
    isOk ((pop8 em).bind fun p s1 => pop16 (statusWritten p s1)) = true ∧ isOk (pop8 bad) = false := by decide +kernel

/-- Every kind but RESET, in both modes, the stack at the edges of WRAM. -/
theorem witness_EntryStacksTheFrame : (∀ k ∈ [IntKind.cop, .brk, .abort, .nmi, .irq], k ≠ .reset) ∧
    ∀ s ∈ [{ em with sp := 0x0100 }, em, { nat 0x00 with sp := 0x0003 }, nat 0x00],
      s.memoriesOk = true ∧ stackInWram s (if s.e then 3 else 4) = true := by decide

theorem witness_RtiUndoesEntry : IntKind.nmi ≠ .reset ∧ ∀ s ∈ [{ em with sp := 0x0100 }, em, { nat 0x00 with sp := 0x0003 }, nat 0x30],
    s.Inv = true ∧ stackInWram s (if s.e then 3 else 4) = true := by decide

theorem witness_StepChoosesItsAction :
    { em with fault := some (.busDecode 0) }.fault = some (.busDecode 0) ∧
    (em.fault = none ∧ { em with stopped := true, pending := some .nmi }.stopped = true ∧ some IntKind.nmi ≠ some .reset) ∧
    { em with pending := some .reset }.pending = some .reset ∧
    (em.stopped = false ∧ { em with pending := some .irq, p := Flags.ofByte 0x30 }.pending = some .irq ∧ IntKind.irq ≠ .reset ∧
      ¬(IntKind.irq = .irq ∧ { em with pending := some .irq, p := Flags.ofByte 0x30 }.p.i = true)) ∧
    ({ em with waiting := true, pending := some .irq }.waiting = true ∧ em.pending = none ∧ em.p.i = true) ∧
    (executes em ∧ executes { em with pending := some .irq }) := by
  refine ⟨by decide, by decide, by decide, by decide, by decide, ⟨by decide, by decide, by decide, .inl rfl⟩,
    by decide, by decide, by decide, .inr (by decide)⟩

theorem witness_StepRecordsNamedFaults : ∃ t, step ({ em with p := Flags.ofByte 0x3C }.placeBytes 0x00 0x8000 [0x69, 0x01]) = .next t ∧
    t.fault = some (.decimalMode 0x008000 0x69) := ⟨_, rfl, by decide +kernel⟩

theorem witness_ResetState : { em with pending := some .reset }.fault = none ∧ { em with pending := some .reset }.pending = some .reset := by
  decide

/-- The longest instruction at the end of a bank: its bytes wrap within the bank. -/
theorem witness_StepRunsTheDecodedInstruction :
    let s := { em with pc := 0xFFFD }.placeBytes 0x00 0xFFFD [0xAF, 0x34, 0x12, 0x7E]
    executes s ∧ Instr.wellFormed s.p.m s.p.x (.ldaLong 0x7E1234) = true ∧
      (List.range 4).all (fun j => s.peek (mkAddr s.k (s.pc + BitVec.ofNat 16 j)) == (encode (.ldaLong 0x7E1234))[j]?) = true := by
  refine ⟨⟨by decide, by decide, by decide, .inl (by decide)⟩, by decide, by decide +kernel⟩

/-- A pattern that raises; a transfer of one byte in each direction; a byte at a register, and a byte whose read raises. -/
theorem witness_DmaMovesBytesInOrder : 4 < (0x05 : Byte).toNat % 8 ∧ (0x04 : Byte).toNat % 8 ≤ 4 ∧
    (∃ off t, Transfers 0x00 0x18 0x7E 0 0x1000 em 1 off t) ∧ (∃ off t, Transfers 0x88 0x18 0x7E 0 0x1000 em 1 off t) ∧
    (0 < (mkWord 0x00 0x01).toNat ∧ Transfers 0x00 0x18 0x00 0 0x2100 em 0 0x2100 em ∧ decodeAddr (mkAddr 0x00 0x2100) = .reg 0x2100) ∧
    (Transfers 0x00 0x18 0x40 0 0x0002 cs 0 0x0002 cs ∧ decodeAddr (mkAddr 0x40 0x0002) = .cart 0x400002 ∧
      isOk (memRead (mkAddr 0x40 0x0002) cs) = false) := by
  refine ⟨by decide, by decide, ⟨_, _, .byte ?_ (by rfl) (by rfl) (.done _ _ _)⟩, ⟨_, _, .byte ?_ (by rfl) (by rfl) (.done _ _ _)⟩,
    ⟨by decide, .done _ _ _, by decide⟩, .done _ _ _, by decide, by decide⟩
  · intro o h
    have h7 : decodeAddr (mkAddr 0x7E 0x1000) = .wram 0x1000 := by decide
    rw [h7] at h
    cases h
  · intro o h
    have h7 : decodeAddr (mkAddr 0x7E 0x1000) = .wram 0x1000 := by decide
    rw [h7] at h
    cases h

theorem witness_CompletedDmaLeaves : (0 < 8 ∧ 7 < 8) ∧
    ∀ n ∈ [0, 7], { em with cells := [(0x4300, 0x00), (0x4301, 0x18), (0x4302, 0x00), (0x4303, 0x10), (0x4304, 0x7E), (0x4305, 0x02),
        (0x4306, 0x00), (0x4370, 0x81), (0x4371, 0x18), (0x4372, 0xFF), (0x4373, 0xFF), (0x4374, 0x7E), (0x4375, 0x02),
        (0x4376, 0x00)] }.memoriesOk = true ∧
      isOk (dmaChannel n { em with cells := [(0x4300, 0x00), (0x4301, 0x18), (0x4302, 0x00), (0x4303, 0x10), (0x4304, 0x7E), (0x4305, 0x02),
        (0x4306, 0x00), (0x4370, 0x81), (0x4371, 0x18), (0x4372, 0xFF), (0x4373, 0xFF), (0x4374, 0x7E), (0x4375, 0x02),
        (0x4376, 0x00)] }) = true := by decide +kernel

theorem witness_HostEventsBetweenSteps : em.memoriesOk = true ∧ (∀ o ∈ [0x2100, 0x21FF, 0x4000, 0x420A, 0x420C, 0x42FF, 0x4380, 0x43FF],
    isSharedCell o = true) ∧ (0x4300 ≤ 0x4300 ∧ 0x4300 ≤ 0x437F) ∧ (0x4300 ≤ 0x437F ∧ 0x437F ≤ 0x437F) := by decide

theorem witness_StepKeepsTheInvariant : em.Inv = true ∧ ∃ t, step (em.placeBytes 0x00 0x8000 [0xEA]) = .next t := ⟨by decide, _, rfl⟩

theorem witness_RegistersWrittenOnlyByTheirInstructions : ∃ t, exec (.staAbs 0x1000) em = .next t ∧ t.wram ≠ em.wram :=
  ⟨_, rfl, by decide +kernel⟩
theorem witness_FlagsWrittenOnlyByTheirInstructions : ∃ t, exec (.bitImmM (.b 0x80)) em = .next t ∧ t.p ≠ em.p :=
  ⟨_, rfl, by decide +kernel⟩
theorem witness_NonStoringInstructionsKeepMemory : storesMemory (.ldaAbs 0x2000) = false ∧ ∃ t, exec (.ldaAbs 0x2000) em = .next t :=
  ⟨by decide, _, rfl⟩

/-- A store, a read-modify-write and an index store, each with an address, a byte it reaches and one it does not; and a pointer
read that raises. -/
theorem witness_StoresReachTheirBytesOnly :
    (∃ t, exec (.staAbs 0x1FFF) (nat 0x10) = .next t) ∧ getAddress (.abs 0x1FFF) (nat 0x10) = .ok ⟨0x001FFF, .lin⟩ (nat 0x10) ∧
    awayFromDma ⟨0x001FFF, .lin⟩ (nat 0x10).wM.bytes ∧ sameByte 0x801FFF 0x001FFF = true ∧ sameByte 0x002000 0x001FFE = false ∧
    sameByte 0x001FFF 0x001FFE = false ∧ isOk (getAddress (.dpInd 0x00) bad) = false := by
  refine ⟨⟨_, rfl⟩, by decide, ?_, by decide, by decide, by decide, by decide⟩
  unfold awayFromDma
  decide

theorem witness_PushesAndMovesReachTheirBytesOnly :
    (∃ t, exec (.jsl 0x123456) em = .next t) ∧ (∀ k < 3, decodeAddr (pushAddr em k) ≠ .reg 0x420B) ∧
    (∀ k < 3, sameByte (pushAddr em k) 0x0001FC = false) ∧ (∃ t, exec (.mvn 0x7E 0x7F) em = .next t) ∧
    (∀ k ≤ em.a.toNat, decodeAddr (moveTarget 1 0x7E em k) ≠ .reg 0x420B ∧ sameByte (moveTarget 1 0x7E em k) 0x7E0001 = false) := by
  refine ⟨⟨_, rfl⟩, by decide, by decide, ⟨_, rfl⟩, ?_⟩
  intro k hk
  obtain rfl : k = 0 := Nat.le_zero.mp hk
  decide

/-- A dispatch that clears the slot and the wait flag, and a RESET that ends a stop. -/
theorem witness_OnlyDispatchEndsWaitsAndRequests :
    (∃ t, step { em with pending := some .nmi, waiting := true } = .next t ∧ t.pending ≠ some .nmi ∧ t.waiting = false) ∧
    (∃ t, step { em with pending := some .reset, stopped := true } = .next t ∧ t.stopped = false) ∧
    nextAction { em with pending := some .nmi, waiting := true } = .dispatch .nmi ∧ IntKind.nmi ≠ .reset := by
  refine ⟨⟨_, rfl, by decide, by decide⟩, ⟨_, rfl, by decide⟩, by decide, by decide⟩

end Sys2Proof.Tests
end

section
/-! SUPPORT. Which parts of the state an operation may change: the frame of every shared operation, composed along the bind, and
the table of the parts that each instruction writes (R28-R39, R34's column "written by"). -/

namespace Sys2Proof.Machine

/-! ### Frames -/

/-- The parts of the state whose writers the frame statements list: registers, the flags of P one by one, and what steps and
other agents own. -/
inductive Part where
  | a | x | y | sp | d | dbr | k | e | waiting | stopped | pending | vt | opAddr | draws
  | flagN | flagV | flagM | flagX | flagD | flagI | flagZ | flagC
deriving DecidableEq, Repr

/-- Two states agree in a part. -/
def Part.Same (q : Part) (s t : State) : Prop :=
  match q with
  | .a => t.a = s.a
  | .x => t.x = s.x
  | .y => t.y = s.y
  | .sp => t.sp = s.sp
  | .d => t.d = s.d
  | .dbr => t.dbr = s.dbr
  | .k => t.k = s.k
  | .e => t.e = s.e
  | .waiting => t.waiting = s.waiting
  | .stopped => t.stopped = s.stopped
  | .pending => t.pending = s.pending
  | .vt => t.vt = s.vt
  | .opAddr => t.opAddr = s.opAddr
  | .draws => t.draws = s.draws
  | .flagN => t.p.n = s.p.n
  | .flagV => t.p.v = s.p.v
  | .flagM => t.p.m = s.p.m
  | .flagX => t.p.x = s.p.x
  | .flagD => t.p.d = s.p.d
  | .flagI => t.p.i = s.p.i
  | .flagZ => t.p.z = s.p.z
  | .flagC => t.p.c = s.p.c

theorem Part.Same.refl (q : Part) (s : State) : q.Same s s := by
  cases q <;> rfl

theorem Part.Same.trans {q : Part} {s t u : State} (h1 : q.Same s t) (h2 : q.Same t u) : q.Same s u := by
  cases q <;> exact Eq.trans h2 h1

/-- Every part outside the list `w` is the same in `t` as in `s`. -/
def OnlyChanges (w : List Part) (s t : State) : Prop := ∀ q, q ∈ w ∨ q.Same s t

namespace OnlyChanges

theorem same {w : List Part} {s t : State} (h : OnlyChanges w s t) {q : Part} (hq : q ∉ w) : q.Same s t :=
  (h q).resolve_left hq

theorem refl (w : List Part) (s : State) : OnlyChanges w s s := fun q => .inr (.refl q s)

theorem mono {w w' : List Part} {s t : State} (h : OnlyChanges w s t) (hw : w ⊆ w') : OnlyChanges w' s t :=
  fun q => (h q).imp_left fun hq => hw hq

theorem trans {w : List Part} {s t u : State} (h1 : OnlyChanges w s t) (h2 : OnlyChanges w t u) : OnlyChanges w s u := by
  intro q
  by_cases hq : q ∈ w
  · exact .inl hq
  · exact .inr ((h1.same hq).trans (h2.same hq))

/-- One change after another: the lists add up. -/
theorem comp {w1 w2 : List Part} {s t u : State} (h1 : OnlyChanges w1 s t) (h2 : OnlyChanges w2 t u) :
    OnlyChanges (w1 ++ w2) s u :=
  (h1.mono (List.subset_append_left w1 w2)).trans (h2.mono (List.subset_append_right w1 w2))

end OnlyChanges

theorem Res.All.bind_changes {α β : Type} {r : Res α} {f : α → State → Res β} {w1 w2 : List Part} {s : State}
    (hr : r.All (OnlyChanges w1 s)) (hf : ∀ v t, (f v t).All (OnlyChanges w2 t)) :
    (r.bind f).All (OnlyChanges (w1 ++ w2) s) :=
  hr.bind (fun _ h => h.mono (List.subset_append_left w1 w2)) fun v t h => (hf v t).mono fun _ h' => h.comp h'

/-- A bus access changes no part: only the latch and the memories. -/
theorem BusOnly.changes {s t : State} (h : BusOnly s t) : OnlyChanges [] s t := by
  rw [h]
  intro q
  cases q <;> exact .inr rfl

theorem ReadOnly.changes {s t : State} (h : ReadOnly s t) : OnlyChanges [] s t := h.busOnly.changes

theorem StackOnly.changes {s t : State} (h : StackOnly s t) : OnlyChanges [.sp] s t := by
  rw [h]
  intro q
  cases q <;> simp [Part.Same]

theorem FetchOnly.changes {s t : State} (h : FetchOnly s t) : OnlyChanges [.opAddr] s t := by
  rw [h]
  intro q
  cases q <;> simp [Part.Same]

theorem Res.All.changes_of_busOnly {α : Type} {r : Res α} {s : State} (h : r.All (BusOnly s)) : r.All (OnlyChanges [] s) :=
  h.mono fun _ h => h.changes

theorem Res.All.changes_of_readOnly {α : Type} {r : Res α} {s : State} (h : r.All (ReadOnly s)) : r.All (OnlyChanges [] s) :=
  h.mono fun _ h => h.changes

theorem Res.All.changes_of_stackOnly {α : Type} {r : Res α} {s : State} (h : r.All (StackOnly s)) :
    r.All (OnlyChanges [.sp] s) :=
  h.mono fun _ h => h.changes

/-- What `WriteP` writes (R33): every flag, and the index registers, whose high bytes it may clear. -/
def Part.statusWrite : List Part := [.x, .y, .flagN, .flagV, .flagM, .flagX, .flagD, .flagI, .flagZ, .flagC]

/-! ### The updates of the state -/

section Updates

variable (s : State)

theorem State.setA_changes (v : Word) : OnlyChanges [.a] s (s.setA v) := by
  intro q; cases q <;> simp [Part.Same]

theorem State.setX_changes (v : Word) : OnlyChanges [.x] s (s.setX v) := by
  intro q; cases q <;> simp [Part.Same]

theorem State.setY_changes (v : Word) : OnlyChanges [.y] s (s.setY v) := by
  intro q; cases q <;> simp [Part.Same]

theorem State.setS_changes (v : Word) : OnlyChanges [.sp] s (s.setS v) := by
  intro q; cases q <;> simp [Part.Same]

theorem State.setNZ_changes (v : Word) (w : Width) : OnlyChanges [.flagN, .flagZ] s (s.setNZ v w) := by
  intro q; cases q <;> simp [Part.Same]

theorem State.setAlu_changes (r : AluResult) : OnlyChanges [.a, .flagN, .flagV, .flagZ, .flagC] s (s.setAlu r) := by
  intro q; cases q <;> simp [Part.Same, State.setAlu]

theorem State.compare_changes (a m : Word) (w : Width) :
    OnlyChanges [.flagN, .flagZ, .flagC] s { s with p := s.p.compare a m w } := by
  intro q; cases q <;> simp [Part.Same]

theorem State.testZ_changes (m : Word) : OnlyChanges [.flagZ] s (s.testZ m) := by
  intro q; cases q <;> simp [Part.Same, State.testZ]

theorem State.withC_changes (c : Bool) : OnlyChanges [.flagC] s { s with p := { s.p with c := c } } := by
  intro q; cases q <;> simp [Part.Same]

theorem State.writeP_changes (v : Byte) : OnlyChanges Part.statusWrite s (s.writeP v) := by
  intro q; cases q <;> simp [Part.Same, Part.statusWrite]

theorem State.exchangeCE_changes : OnlyChanges [.e, .flagC, .flagM, .flagX, .x, .y, .sp] s s.exchangeCE := by
  unfold State.exchangeCE State.enterEmulation
  intro q
  cases q <;> (dsimp only; split <;> simp [Part.Same])

theorem State.vectorTo_changes (k : IntKind) : OnlyChanges [.flagI, .flagD, .k] s (s.vectorTo k) := by
  intro q; cases q <;> simp [Part.Same, State.vectorTo]

end Updates

/-! ### The shared operations behind the instructions -/

section Operations

variable (s : State)

theorem loadA_changes (op : Operand) : (loadA op s).All (OnlyChanges [.a, .flagN, .flagZ] s) :=
  (getValue_readOnly op _ s).changes_of_readOnly.bind_changes fun v t => (t.setA_changes v).comp (State.setNZ_changes _ _ _)

theorem loadX_changes (op : Operand) : (loadX op s).All (OnlyChanges [.x, .flagN, .flagZ] s) :=
  (getValue_readOnly op _ s).changes_of_readOnly.bind_changes fun v t => (t.setX_changes v).comp (State.setNZ_changes _ _ _)

theorem loadY_changes (op : Operand) : (loadY op s).All (OnlyChanges [.y, .flagN, .flagZ] s) :=
  (getValue_readOnly op _ s).changes_of_readOnly.bind_changes fun v t => (t.setY_changes v).comp (State.setNZ_changes _ _ _)

theorem storeTo_changes (mode : MemMode) (w : Width) (v : State → Word) : (storeTo mode w v s).All (OnlyChanges [] s) :=
  (getAddress_readOnly mode s).changes_of_readOnly.bind_changes fun ea t => (writeN_busOnly ea _ _ t).changes_of_busOnly

theorem State.transferToA_changes (v : Word) : OnlyChanges [.a, .flagN, .flagZ] s (s.transferToA v) :=
  (s.setA_changes v).comp (State.setNZ_changes _ _ _)

theorem State.transferToX_changes (v : Word) : OnlyChanges [.x, .flagN, .flagZ] s (s.transferToX v) :=
  (s.setX_changes v).comp (State.setNZ_changes _ _ _)

theorem State.transferToY_changes (v : Word) : OnlyChanges [.y, .flagN, .flagZ] s (s.transferToY v) :=
  (s.setY_changes v).comp (State.setNZ_changes _ _ _)

/-- A write of the whole accumulator (TSC, TDC, XBA). -/
theorem State.withA_changes (v : Word) : OnlyChanges [.a] s { s with a := v } := by
  intro q; cases q <;> simp [Part.Same]

theorem State.withD_changes (v : Word) : OnlyChanges [.d] s { s with d := v } := by
  intro q; cases q <;> simp [Part.Same]

theorem State.withDbr_changes (v : Byte) : OnlyChanges [.dbr] s { s with dbr := v } := by
  intro q; cases q <;> simp [Part.Same]

/-- A write of K and PC (R300, R312). -/
theorem State.withKPc_changes (k : Byte) (pc : Word) : OnlyChanges [.k] s { s with k := k, pc := pc } := by
  intro q; cases q <;> simp [Part.Same]

theorem State.jump_changes (t : Word) : OnlyChanges [] s (s.jump t) := by
  intro q; cases q <;> exact .inr rfl

theorem State.branchIf_changes (b : Bool) (t : Word) : OnlyChanges [] s (s.branchIf b t) := by
  intro q; cases q <;> exact .inr rfl

theorem State.stepX_changes (delta : Word) : OnlyChanges [.x, .flagN, .flagZ] s (s.stepX delta) :=
  (s.setX_changes _).comp (State.setNZ_changes _ _ _)

theorem State.stepY_changes (delta : Word) : OnlyChanges [.y, .flagN, .flagZ] s (s.stepY delta) :=
  (s.setY_changes _).comp (State.setNZ_changes _ _ _)

theorem binaryOnly_changes (opcode : Byte) {w : List Part} {body : Res Unit} (h : body.All (OnlyChanges w s)) :
    (binaryOnly opcode s body).All (OnlyChanges w s) := by
  unfold binaryOnly
  split
  · exact OnlyChanges.refl w s
  · exact h

theorem addA_changes (opcode : Byte) (op : Operand) :
    (addA opcode op s).All (OnlyChanges [.a, .flagN, .flagV, .flagZ, .flagC] s) :=
  binaryOnly_changes s opcode
    ((getValue_readOnly op _ s).changes_of_readOnly.bind_changes fun _ t => State.setAlu_changes t _)

theorem subA_changes (opcode : Byte) (op : Operand) :
    (subA opcode op s).All (OnlyChanges [.a, .flagN, .flagV, .flagZ, .flagC] s) :=
  binaryOnly_changes s opcode
    ((getValue_readOnly op _ s).changes_of_readOnly.bind_changes fun _ t => State.setAlu_changes t _)

theorem compareA_changes (op : Operand) : (compareA op s).All (OnlyChanges [.flagN, .flagZ, .flagC] s) :=
  (getValue_readOnly op _ s).changes_of_readOnly.bind_changes fun _ t => State.compare_changes t _ _ _

theorem compareX_changes (op : Operand) : (compareX op s).All (OnlyChanges [.flagN, .flagZ, .flagC] s) :=
  (getValue_readOnly op _ s).changes_of_readOnly.bind_changes fun _ t => State.compare_changes t _ _ _

theorem compareY_changes (op : Operand) : (compareY op s).All (OnlyChanges [.flagN, .flagZ, .flagC] s) :=
  (getValue_readOnly op _ s).changes_of_readOnly.bind_changes fun _ t => State.compare_changes t _ _ _

theorem logicA_changes (f : Word → Word → Word) (op : Operand) : (logicA f op s).All (OnlyChanges [.a, .flagN, .flagZ] s) :=
  (getValue_readOnly op _ s).changes_of_readOnly.bind_changes fun _ t => (t.setA_changes _).comp (State.setNZ_changes _ _ _)

theorem bitImmediate_changes (v : Imm) : (bitImmediate v s).All (OnlyChanges [.flagZ] s) :=
  (getValue_readOnly (.imm v) _ s).changes_of_readOnly.bind_changes fun m t => t.testZ_changes m

/-- A write of the flags N and V (BIT on memory, R265). -/
theorem State.withNV_changes (n v : Bool) : OnlyChanges [.flagN, .flagV] s { s with p := { s.p with n := n, v := v } } := by
  intro q; cases q <;> simp [Part.Same]

theorem bitMemory_changes (mode : MemMode) : (bitMemory mode s).All (OnlyChanges [.flagZ, .flagN, .flagV] s) :=
  (getValue_readOnly (.mem mode) _ s).changes_of_readOnly.bind_changes fun m t =>
    (t.testZ_changes m).comp (State.withNV_changes _ _ _)

/-- What the destination of a read-modify-write is among the parts: the accumulator, or no part. -/
def Dest.parts (dst : Dest) : List Part :=
  match dst with
  | .acc => [.a]
  | .mem _ => []

theorem readModifyWrite_changes (dst : Dest) (w : Width) {pre : Word → State → State} {new : Word → State → Word}
    {post : Word → State → State} {before after : List Part} (hpre : ∀ v t, OnlyChanges before t (pre v t))
    (hpost : ∀ v t, OnlyChanges after t (post v t)) :
    (readModifyWrite dst w pre new post s).All (OnlyChanges (before ++ (dst.parts ++ after)) s) := by
  cases dst with
  | acc => exact (hpre _ s).comp ((State.setA_changes _ _).comp (hpost _ _))
  | mem mode =>
    refine (getAddress_readOnly mode s).changes_of_readOnly.bind_changes fun ea s1 => ?_
    refine (readAt_readOnly ea w s1).changes_of_readOnly.bind_changes fun v s2 => ?_
    refine Res.All.mono (P := OnlyChanges after (pre v s2)) ?_ fun _ h => (hpre v s2).comp h
    exact (writeN_busOnly ea _ _ _).changes_of_busOnly.bind_changes fun _ s3 => hpost _ s3

theorem increment_changes (dst : Dest) : (increment dst s).All (OnlyChanges (dst.parts ++ [.flagN, .flagZ]) s) := by
  unfold increment modifyNZ
  exact readModifyWrite_changes s dst s.wM (fun _ t => .refl [] t) fun v t => t.setNZ_changes v s.wM

theorem decrement_changes (dst : Dest) : (decrement dst s).All (OnlyChanges (dst.parts ++ [.flagN, .flagZ]) s) := by
  unfold decrement modifyNZ
  exact readModifyWrite_changes s dst s.wM (fun _ t => .refl [] t) fun v t => t.setNZ_changes v s.wM

theorem testAndModify_changes (f : Word → Word → Word) (mode : MemMode) :
    (testAndModify f mode s).All (OnlyChanges [.flagZ] s) :=
  readModifyWrite_changes s (.mem mode) s.wM (fun v t => t.testZ_changes v) fun _ t => .refl [] t

theorem shiftLeftBy_changes (cin : State → Bool) (dst : Dest) :
    (shiftLeftBy cin dst s).All (OnlyChanges (.flagC :: (dst.parts ++ [.flagN, .flagZ])) s) :=
  readModifyWrite_changes s dst s.wM (fun _ t => t.withC_changes _) fun v t => t.setNZ_changes v s.wM

theorem shiftRightBy_changes (cin : State → Bool) (dst : Dest) :
    (shiftRightBy cin dst s).All (OnlyChanges (.flagC :: (dst.parts ++ [.flagN, .flagZ])) s) :=
  readModifyWrite_changes s dst s.wM (fun _ t => t.withC_changes _) fun v t => t.setNZ_changes v s.wM

theorem blockMoveByte_changes (delta : Word) (dbk sbk : Byte) (s : State) :
    (blockMoveByte delta dbk sbk s).All (OnlyChanges [.x, .y, .a] s) :=
  (memRead_readOnly _ s).changes_of_readOnly.bind_changes fun _ t =>
    (memWrite_busOnly _ _ t).changes_of_busOnly.bind_changes fun _ u =>
      (u.setX_changes _).comp ((State.setY_changes _ _).comp (State.withA_changes _ _))

theorem blockMoveBytes_changes (delta : Word) (dbk sbk : Byte) :
    ∀ (n : Nat) (s : State), (blockMoveBytes delta dbk sbk n s).All (OnlyChanges [.x, .y, .a] s)
  | 0, s => blockMoveByte_changes delta dbk sbk s
  | n + 1, s => (blockMoveByte_changes delta dbk sbk s).bind (fun _ h => h) fun _ t h =>
      (blockMoveBytes_changes delta dbk sbk n t).mono fun _ h' => h.trans h'

theorem blockMove_changes (delta : Word) (dbk sbk : Byte) :
    (blockMove delta dbk sbk s).All (OnlyChanges [.dbr, .x, .y, .a] s) :=
  (blockMoveBytes_changes delta dbk sbk _ _).mono fun _ h => (s.withDbr_changes dbk).comp h

theorem callIndexed_changes (a16 : Word) : (callIndexed a16 s).All (OnlyChanges [.sp] s) :=
  (push16_stackOnly _ s).changes_of_stackOnly.bind_changes fun _ t =>
    (absIndXTarget_readOnly a16 t).changes_of_readOnly.bind_changes fun v u => u.jump_changes v

theorem State.jumpLong_changes (t : Addr) : OnlyChanges [.k] s (s.jumpLong t) := s.withKPc_changes _ _

theorem callLong_changes (a24 : Addr) : (callLong a24 s).All (OnlyChanges [.sp, .k] s) := by
  refine Res.All.mono (P := OnlyChanges [.sp, .sp, .k] s) ?_ fun _ h => h.mono (by decide)
  exact (push8_stackOnly _ s).changes_of_stackOnly.bind_changes fun _ t =>
    (push16_stackOnly _ t).changes_of_stackOnly.bind_changes fun _ u => u.jumpLong_changes a24

theorem returnLong_changes : (returnLong s).All (OnlyChanges [.sp, .k] s) := by
  refine Res.All.mono (P := OnlyChanges [.sp, .sp, .k] s) ?_ fun _ h => h.mono (by decide)
  exact (pop16_stackOnly s).changes_of_stackOnly.bind_changes fun r t =>
    (pop8_stackOnly t).changes_of_stackOnly.bind_changes fun k u => u.withKPc_changes k (r + 1)

theorem pullA_changes : (pullA s).All (OnlyChanges [.sp, .a, .flagN, .flagZ] s) :=
  (popAt_stackOnly _ s).changes_of_stackOnly.bind_changes fun v t => (t.setA_changes v).comp (State.setNZ_changes _ _ _)

theorem pullX_changes : (pullX s).All (OnlyChanges [.sp, .x, .flagN, .flagZ] s) :=
  (popAt_stackOnly _ s).changes_of_stackOnly.bind_changes fun v t => (t.setX_changes v).comp (State.setNZ_changes _ _ _)

theorem pullY_changes : (pullY s).All (OnlyChanges [.sp, .y, .flagN, .flagZ] s) :=
  (popAt_stackOnly _ s).changes_of_stackOnly.bind_changes fun v t => (t.setY_changes v).comp (State.setNZ_changes _ _ _)

theorem pullDbr_changes : (pullDbr s).All (OnlyChanges [.sp, .dbr, .flagN, .flagZ] s) :=
  (pop8_stackOnly s).changes_of_stackOnly.bind_changes fun v t => (t.withDbr_changes v).comp (State.setNZ_changes _ _ _)

theorem pullD_changes : (pullD s).All (OnlyChanges [.sp, .d, .flagN, .flagZ] s) :=
  (pop16_stackOnly s).changes_of_stackOnly.bind_changes fun v t => (t.withD_changes v).comp (State.setNZ_changes _ _ _)

theorem pushIndirect_changes (o : Byte) : (pushIndirect o s).All (OnlyChanges [.sp] s) :=
  (readWord_readOnly _ s).changes_of_readOnly.bind_changes fun v t => (push16_stackOnly v t).changes_of_stackOnly

/-- Taking an exception writes S, I, D and K (R421). -/
theorem enter_changes (k : IntKind) : (enter k s).All (OnlyChanges [.sp, .flagI, .flagD, .k] s) := by
  refine Res.All.mono (P := OnlyChanges [.sp, .sp, .sp, .flagI, .flagD, .k] s) ?_ fun _ h => h.mono (by decide)
  exact (enter_pushes s).changes_of_stackOnly.bind_changes fun _ s1 =>
    (push16_stackOnly _ s1).changes_of_stackOnly.bind_changes fun _ s2 =>
      (push8_stackOnly _ s2).changes_of_stackOnly.bind_changes fun _ s3 => s3.vectorTo_changes k

/-- The last pull of a return from an exception: K, in native mode only (R381). -/
theorem returnFromInterrupt_bank_changes :
    (if s.e then Res.ok () s else (pop8 s).bind fun k t => .ok () { t with k := k }).All (OnlyChanges [.sp, .k] s) := by
  split
  · exact .refl _ s
  · exact (pop8_stackOnly s).changes_of_stackOnly.bind_changes fun k t => t.withKPc_changes k t.pc

theorem returnFromInterrupt_changes : (returnFromInterrupt s).All (OnlyChanges (.sp :: .k :: Part.statusWrite) s) := by
  refine Res.All.mono (P := OnlyChanges (.sp :: (Part.statusWrite ++ [.sp, .sp, .k])) s) ?_ fun _ h => h.mono (by decide)
  refine (pop8_stackOnly s).changes_of_stackOnly.bind_changes fun p s1 => ?_
  refine Res.All.mono (P := OnlyChanges [.sp, .sp, .k] (s1.writeP p)) ?_ fun _ h => (s1.writeP_changes p).comp h
  exact (pop16_stackOnly _).changes_of_stackOnly.bind_changes fun pc s2 =>
    (returnFromInterrupt_bank_changes { s2 with pc := pc }).mono fun _ h => (s2.jump_changes pc).comp h

/-- A dispatch but of RESET clears the slot and the wait flag, notes the opcode address and takes the exception (R420). -/
theorem dispatch_changes {k : IntKind} (hk : k ≠ .reset) :
    (dispatch k s).All (OnlyChanges [.pending, .waiting, .opAddr, .sp, .flagI, .flagD, .k] s) := by
  have hclear : OnlyChanges [.pending, .waiting, .opAddr] s { s.noteOpAddr with pending := none, waiting := false } := by
    intro q; cases q <;> simp [Part.Same]
  unfold dispatch
  cases k with
  | reset => exact absurd rfl hk
  | _ => exact (enter_changes _ _).mono fun _ h => hclear.comp h

end Operations

/-! ### Operations that one instruction has for itself -/

section OwnOperations

variable (s : State)

theorem State.withV_changes (v : Bool) : OnlyChanges [.flagV] s { s with p := { s.p with v := v } } := by
  intro q; cases q <;> simp [Part.Same]

theorem State.withI_changes (i : Bool) : OnlyChanges [.flagI] s { s with p := { s.p with i := i } } := by
  intro q; cases q <;> simp [Part.Same]

theorem State.withDecimal_changes (d : Bool) : OnlyChanges [.flagD] s { s with p := { s.p with d := d } } := by
  intro q; cases q <;> simp [Part.Same]

theorem State.withWaiting_changes (b : Bool) : OnlyChanges [.waiting] s { s with waiting := b } := by
  intro q; cases q <;> simp [Part.Same]

theorem State.withStopped_changes (b : Bool) : OnlyChanges [.stopped] s { s with stopped := b } := by
  intro q; cases q <;> simp [Part.Same]

/-- JMP through a pointer (R311). -/
theorem jumpThrough_changes {r : Res Word} (hr : r.All (ReadOnly s)) :
    (r.bind fun t s1 => .ok () (s1.jump t)).All (OnlyChanges [] s) :=
  hr.changes_of_readOnly.bind_changes fun v t => t.jump_changes v

/-- JML through a pointer (R312). -/
theorem jumpLongThrough_changes {r : Res Addr} (hr : r.All (ReadOnly s)) :
    (r.bind fun t s1 => .ok () (s1.jumpLong t)).All (OnlyChanges [.k] s) :=
  hr.changes_of_readOnly.bind_changes fun v t => t.jumpLong_changes v

theorem jumpThrough_keepsInv {r : Res Word} (hr : r.All (ReadOnly s)) :
    (r.bind fun t s1 => .ok () (s1.jump t)).All (KeepsInv s) :=
  hr.keepsInv_of_readOnly.bind_keepsInv fun _ _ h => h

theorem jumpLongThrough_keepsInv {r : Res Addr} (hr : r.All (ReadOnly s)) :
    (r.bind fun t s1 => .ok () (s1.jumpLong t)).All (KeepsInv s) :=
  hr.keepsInv_of_readOnly.bind_keepsInv fun _ _ h => h

/-- JSR to an absolute target (R313). -/
theorem call_changes (a16 : Word) :
    ((push16 s.returnAddress s).bind fun _ s1 => .ok () (s1.jump a16)).All (OnlyChanges [.sp] s) :=
  (push16_stackOnly _ s).changes_of_stackOnly.bind_changes fun _ t => t.jump_changes a16

theorem call_keepsInv (a16 : Word) :
    ((push16 s.returnAddress s).bind fun _ s1 => .ok () (s1.jump a16)).All (KeepsInv s) :=
  (push16_keepsInv _ s).bind_keepsInv fun _ _ h => h

/-- RTS (R315). -/
theorem return_changes : ((pop16 s).bind fun r s1 => .ok () (s1.jump (r + 1))).All (OnlyChanges [.sp] s) :=
  (pop16_stackOnly s).changes_of_stackOnly.bind_changes fun r t => t.jump_changes (r + 1)

theorem return_keepsInv : ((pop16 s).bind fun r s1 => .ok () (s1.jump (r + 1))).All (KeepsInv s) :=
  (pop16_keepsInv s).bind_keepsInv fun _ _ h => h

/-- PLP (R352). -/
theorem pullP_changes : ((pop8 s).bind fun v s1 => .ok () (s1.writeP v)).All (OnlyChanges (.sp :: Part.statusWrite) s) :=
  (pop8_stackOnly s).changes_of_stackOnly.bind_changes fun v t => t.writeP_changes v

theorem pullP_keepsInv : ((pop8 s).bind fun v s1 => .ok () (s1.writeP v)).All (KeepsInv s) :=
  (pop8_keepsInv s).bind_keepsInv fun v t => t.writeP_keepsInv v

end OwnOperations

/-! ### The parts each instruction writes -/

/-- The parts an instruction writes, by mnemonic, and by whether it is the accumulator form of a read-modify-write instruction
(R172) or has an immediate operand (BIT #, R265). -/
def writtenParts (m : Mnemonic) (acc imm : Bool) : List Part :=
  match m with
  | .lda | .txa | .tya | .tsc | .tdc | .xba | .and | .ora | .eor => [.a, .flagN, .flagZ]
  | .ldx | .tax | .tyx | .tsx | .inx | .dex => [.x, .flagN, .flagZ]
  | .ldy | .tay | .txy | .iny | .dey => [.y, .flagN, .flagZ]
  | .tcd => [.d, .flagN, .flagZ]
  | .sta | .stx | .sty | .stz => []
  | .mvn | .mvp => [.dbr, .x, .y, .a]
  | .adc | .sbc => [.a, .flagN, .flagV, .flagZ, .flagC]
  | .cmp | .cpx | .cpy => [.flagN, .flagZ, .flagC]
  | .inc | .dec => (if acc then [.a] else []) ++ [.flagN, .flagZ]
  | .asl | .lsr | .rol | .ror => .flagC :: ((if acc then [.a] else []) ++ [.flagN, .flagZ])
  | .bit => if imm then [.flagZ] else [.flagZ, .flagN, .flagV]
  | .tsb | .trb => [.flagZ]
  | .bpl | .bmi | .bvc | .bvs | .bcc | .bcs | .bne | .beq | .bra | .brl | .jmp => []
  | .jml => [.k]
  | .jsr | .rts => [.sp]
  | .jsl | .rtl => [.sp, .k]
  | .txs | .tcs | .pha | .phx | .phy | .php | .phb | .phk | .phd | .pea | .pei | .per => [.sp]
  | .pla => [.sp, .a, .flagN, .flagZ]
  | .plx => [.sp, .x, .flagN, .flagZ]
  | .ply => [.sp, .y, .flagN, .flagZ]
  | .plb => [.sp, .dbr, .flagN, .flagZ]
  | .pld => [.sp, .d, .flagN, .flagZ]
  | .plp => .sp :: Part.statusWrite
  | .rep | .sep => Part.statusWrite
  | .clc | .sec => [.flagC]
  | .cli | .sei => [.flagI]
  | .cld | .sed => [.flagD]
  | .clv => [.flagV]
  | .xce => [.e, .flagC, .flagM, .flagX, .x, .y, .sp]
  | .brk | .cop => [.sp, .flagI, .flagD, .k]
  | .rti => .sp :: .k :: Part.statusWrite
  | .wai => [.waiting]
  | .stp => [.stopped]
  | .nop | .wdm => []

/-- The parts an instruction writes. -/
def instrWrites (i : Instr) : List Part := writtenParts i.mnemonic (decide (i.mode = .acc)) (decide (i.mode = .immM))

/-- Every next state that an outcome names differs from `s` in the parts `w` alone, and is well-formed if `s` is. -/
def Effect (w : List Part) (s : State) (o : Out) : Prop := ∀ t, o = .next t → OnlyChanges w s t ∧ KeepsInv s t

theorem next_effect {w : List Part} {s t : State} (hw : OnlyChanges w s t) (hi : KeepsInv s t) : Effect w s (.next t) := by
  rintro _ ⟨⟩
  exact ⟨hw, hi⟩

/-- A fault recorded is no change of a part (R440). -/
theorem OnlyChanges.withFault {w : List Part} {s t : State} {f : Fault} (h : OnlyChanges w s t) :
    OnlyChanges w s { t with fault := some f } := by
  intro q
  refine (h q).imp_right fun hq => ?_
  cases q <;> exact hq

/-- A property of both ends of an operation that no recorded fault affects holds at the end of its step. -/
theorem finish_all {r : Res Unit} {P : State → Prop} {t : State} (hr : r.All P)
    (hfault : ∀ u f, P u → P { u with fault := some f }) (h : finish r = .next t) : P t := by
  rcases finish_eq_next.1 h with hk | ⟨f, u, hk, rfl⟩
  · exact hr.of_ok hk
  · rw [hk] at hr
    exact hfault u f hr

theorem finish_effect {w : List Part} {s : State} {r : Res Unit} (hw : r.All (OnlyChanges w s)) (hi : r.All (KeepsInv s)) :
    Effect w s (finish r) :=
  fun _ ht => ⟨finish_all hw (fun _ _ h => h.withFault) ht, finish_keepsInv hi ht⟩

/-- The frame of every instruction, and that it keeps a state well-formed, from the shared operation it is made of. Immediate and
accumulator forms name their operand, since Lean cannot find it behind an operand read that reduces. -/
theorem exec_effect (i : Instr) (s : State) : Effect (instrWrites i) s (exec i s) := by
  cases i
  case ldaDpIndX | ldaSr | ldaDp | ldaDpIndL | ldaAbs | ldaLong | ldaDpIndY | ldaDpInd | ldaSrIndY | ldaDpX | ldaDpIndLY |
      ldaAbsY | ldaAbsX | ldaLongX => exact finish_effect (loadA_changes s _) (loadA_keepsInv _ s)
  case ldaImmM v => exact finish_effect (loadA_changes s (.imm v)) (loadA_keepsInv _ s)
  case ldxDp | ldxAbs | ldxDpY | ldxAbsY => exact finish_effect (loadX_changes s _) (loadX_keepsInv _ s)
  case ldxImmX v => exact finish_effect (loadX_changes s (.imm v)) (loadX_keepsInv _ s)
  case ldyDp | ldyAbs | ldyDpX | ldyAbsX => exact finish_effect (loadY_changes s _) (loadY_keepsInv _ s)
  case ldyImmX v => exact finish_effect (loadY_changes s (.imm v)) (loadY_keepsInv _ s)
  case staDpIndX | staSr | staDp | staDpIndL | staAbs | staLong | staDpIndY | staDpInd | staSrIndY | staDpX | staDpIndLY |
      staAbsY | staAbsX | staLongX | stxDp | stxAbs | stxDpY | styDp | styAbs | styDpX | stzDp | stzDpX | stzAbs | stzAbsX =>
    exact finish_effect (storeTo_changes s _ _ _) (storeTo_keepsInv _ _ _ s)
  case tax | tyx | tsx => exact next_effect (s.transferToX_changes _) (s.transferToX_keepsInv _)
  case tay | txy => exact next_effect (s.transferToY_changes _) (s.transferToY_keepsInv _)
  case txa | tya => exact next_effect (s.transferToA_changes _) (s.transferToA_keepsInv _)
  case tsc | tdc => exact next_effect ((s.withA_changes _).comp (State.setNZ_changes _ _ _)) (s.transferToC16_keepsInv _)
  case txs | tcs => exact next_effect (s.setS_changes _) (s.setS_keepsInv _)
  case tcd =>
    exact next_effect ((s.withD_changes _).comp (State.setNZ_changes _ _ _)) (State.setNZ_keepsInv { s with d := s.a } _ _)
  case xba =>
    exact next_effect ((s.withA_changes _).comp (State.setNZ_changes _ _ _)) (State.setNZ_keepsInv { s with a := _ } _ _)
  case mvn | mvp => exact finish_effect (blockMove_changes s _ _ _) (blockMove_keepsInv _ _ _ s)
  case adcDpIndX | adcSr | adcDp | adcDpIndL | adcImmM | adcAbs | adcLong | adcDpIndY | adcDpInd | adcSrIndY | adcDpX |
      adcDpIndLY | adcAbsY | adcAbsX | adcLongX => exact finish_effect (addA_changes s _ _) (addA_keepsInv _ _ s)
  case sbcDpIndX | sbcSr | sbcDp | sbcDpIndL | sbcImmM | sbcAbs | sbcLong | sbcDpIndY | sbcDpInd | sbcSrIndY | sbcDpX |
      sbcDpIndLY | sbcAbsY | sbcAbsX | sbcLongX => exact finish_effect (subA_changes s _ _) (subA_keepsInv _ _ s)
  case cmpDpIndX | cmpSr | cmpDp | cmpDpIndL | cmpAbs | cmpLong | cmpDpIndY | cmpDpInd | cmpSrIndY | cmpDpX | cmpDpIndLY |
      cmpAbsY | cmpAbsX | cmpLongX => exact finish_effect (compareA_changes s _) (compareA_keepsInv _ s)
  case cmpImmM v => exact finish_effect (compareA_changes s (.imm v)) (compareA_keepsInv _ s)
  case cpxDp | cpxAbs => exact finish_effect (compareX_changes s _) (compareX_keepsInv _ s)
  case cpxImmX v => exact finish_effect (compareX_changes s (.imm v)) (compareX_keepsInv _ s)
  case cpyDp | cpyAbs => exact finish_effect (compareY_changes s _) (compareY_keepsInv _ s)
  case cpyImmX v => exact finish_effect (compareY_changes s (.imm v)) (compareY_keepsInv _ s)
  case incDp | incAbs | incDpX | incAbsX => exact finish_effect (increment_changes s _) (increment_keepsInv _ s)
  case incAcc => exact finish_effect (increment_changes s .acc) (increment_keepsInv _ s)
  case decDp | decAbs | decDpX | decAbsX => exact finish_effect (decrement_changes s _) (decrement_keepsInv _ s)
  case decAcc => exact finish_effect (decrement_changes s .acc) (decrement_keepsInv _ s)
  case inx | dex => exact next_effect (s.stepX_changes _) (s.stepX_keepsInv _)
  case iny | dey => exact next_effect (s.stepY_changes _) (s.stepY_keepsInv _)
  case andDpIndX | andSr | andDp | andDpIndL | andAbs | andLong | andDpIndY | andDpInd | andSrIndY | andDpX | andDpIndLY |
      andAbsY | andAbsX | andLongX | oraDpIndX | oraSr | oraDp | oraDpIndL | oraAbs | oraLong | oraDpIndY | oraDpInd |
      oraSrIndY | oraDpX | oraDpIndLY | oraAbsY | oraAbsX | oraLongX | eorDpIndX | eorSr | eorDp | eorDpIndL | eorAbs |
      eorLong | eorDpIndY | eorDpInd | eorSrIndY | eorDpX | eorDpIndLY | eorAbsY | eorAbsX | eorLongX =>
    exact finish_effect (logicA_changes s _ _) (logicA_keepsInv _ _ s)
  case andImmM v => exact finish_effect (logicA_changes s (· &&& ·) (.imm v)) (logicA_keepsInv _ _ s)
  case oraImmM v => exact finish_effect (logicA_changes s (· ||| ·) (.imm v)) (logicA_keepsInv _ _ s)
  case eorImmM v => exact finish_effect (logicA_changes s (· ^^^ ·) (.imm v)) (logicA_keepsInv _ _ s)
  case bitImmM => exact finish_effect (bitImmediate_changes s _) (bitImmediate_keepsInv _ s)
  case bitDp | bitAbs | bitDpX | bitAbsX => exact finish_effect (bitMemory_changes s _) (bitMemory_keepsInv _ s)
  case tsbDp | tsbAbs | trbDp | trbAbs => exact finish_effect (testAndModify_changes s _ _) (testAndModify_keepsInv _ _ s)
  case aslDp | aslAbs | aslDpX | aslAbsX | rolDp | rolAbs | rolDpX | rolAbsX =>
    exact finish_effect (shiftLeftBy_changes s _ _) (shiftLeftBy_keepsInv _ _ s)
  case aslAcc => exact finish_effect (shiftLeftBy_changes s (fun _ => false) .acc) (shiftLeftBy_keepsInv _ _ s)
  case rolAcc => exact finish_effect (shiftLeftBy_changes s (fun t => t.p.c) .acc) (shiftLeftBy_keepsInv _ _ s)
  case lsrDp | lsrAbs | lsrDpX | lsrAbsX | rorDp | rorAbs | rorDpX | rorAbsX =>
    exact finish_effect (shiftRightBy_changes s _ _) (shiftRightBy_keepsInv _ _ s)
  case lsrAcc => exact finish_effect (shiftRightBy_changes s (fun _ => false) .acc) (shiftRightBy_keepsInv _ _ s)
  case rorAcc => exact finish_effect (shiftRightBy_changes s (fun t => t.p.c) .acc) (shiftRightBy_keepsInv _ _ s)
  case bpl | bmi | bvc | bvs | bcc | bcs | bne | beq => exact next_effect (s.branchIf_changes _ _) fun h => h
  case bra | brl | jmpAbsJ => exact next_effect (s.jump_changes _) fun h => h
  case jmpAbsInd | jmpAbsIndX =>
    exact finish_effect (jumpThrough_changes s (readWord_readOnly _ s)) (jumpThrough_keepsInv s (readWord_readOnly _ s))
  case jmlLongJ => exact next_effect (s.jumpLong_changes _) fun h => h
  case jmlAbsIndL =>
    exact finish_effect (jumpLongThrough_changes s (readN_readOnly _ 3 s)) (jumpLongThrough_keepsInv s (readN_readOnly _ 3 s))
  case jsrAbsJ => exact finish_effect (call_changes s _) (call_keepsInv s _)
  case jsrAbsIndX => exact finish_effect (callIndexed_changes s _) (callIndexed_keepsInv _ s)
  case jsl => exact finish_effect (callLong_changes s _) (callLong_keepsInv _ s)
  case rts => exact finish_effect (return_changes s) (return_keepsInv s)
  case rtl => exact finish_effect (returnLong_changes s) (returnLong_keepsInv s)
  case pha | phx | phy => exact finish_effect (pushAt_stackOnly _ _ s).changes_of_stackOnly (pushAt_keepsInv _ _ s)
  case php | phb | phk => exact finish_effect (push8_stackOnly _ s).changes_of_stackOnly (push8_keepsInv _ s)
  case phd | pea | per => exact finish_effect (push16_stackOnly _ s).changes_of_stackOnly (push16_keepsInv _ s)
  case pei => exact finish_effect (pushIndirect_changes s _) (pushIndirect_keepsInv _ s)
  case pla => exact finish_effect (pullA_changes s) (pullA_keepsInv s)
  case plx => exact finish_effect (pullX_changes s) (pullX_keepsInv s)
  case ply => exact finish_effect (pullY_changes s) (pullY_keepsInv s)
  case plp => exact finish_effect (pullP_changes s) (pullP_keepsInv s)
  case plb => exact finish_effect (pullDbr_changes s) (pullDbr_keepsInv s)
  case pld => exact finish_effect (pullD_changes s) (pullD_keepsInv s)
  case clc | sec => exact next_effect (s.withC_changes _) (s.withFlags_keepsInv _ rfl rfl)
  case cli | sei => exact next_effect (s.withI_changes _) (s.withFlags_keepsInv _ rfl rfl)
  case cld | sed => exact next_effect (s.withDecimal_changes _) (s.withFlags_keepsInv _ rfl rfl)
  case clv => exact next_effect (s.withV_changes _) (s.withFlags_keepsInv _ rfl rfl)
  case rep | sep => exact next_effect (s.writeP_changes _) (s.writeP_keepsInv _)
  case xce => exact next_effect s.exchangeCE_changes s.exchangeCE_keepsInv
  case brk | cop => exact finish_effect (enter_changes s _) (enter_keepsInv _ s)
  case rti => exact finish_effect (returnFromInterrupt_changes s) (returnFromInterrupt_keepsInv s)
  case wai => exact next_effect (s.withWaiting_changes true) fun h => h
  case stp => exact next_effect (s.withStopped_changes true) fun h => h
  case nop | wdm => exact next_effect (.refl [] s) fun h => h

theorem exec_keepsInv {i : Instr} {s t : State} (h : exec i s = .next t) : KeepsInv s t := (exec_effect i s t h).2

/-- Every mnemonic, in the order of its definition. -/
def allMnemonics : List Mnemonic :=
  [.lda, .ldx, .ldy, .sta, .stx, .sty, .stz, .tax, .tay, .txa, .tya, .txy, .tyx, .tsx, .txs, .tcs, .tsc, .tcd, .tdc, .xba, .mvn,
   .mvp, .adc, .sbc, .cmp, .cpx, .cpy, .inc, .dec, .inx, .iny, .dex, .dey, .and, .ora, .eor, .bit, .tsb, .trb, .asl, .lsr, .rol,
   .ror, .bpl, .bmi, .bvc, .bvs, .bcc, .bcs, .bne, .beq, .bra, .brl, .jmp, .jml, .jsr, .jsl, .rts, .rtl, .pha, .phx, .phy, .php,
   .phb, .phk, .phd, .pea, .pei, .per, .pla, .plx, .plp, .ply, .plb, .pld, .clc, .sec, .cli, .sei, .cld, .rep, .sep, .sed, .clv,
   .xce, .brk, .rti, .cop, .wai, .stp, .nop, .wdm]

theorem mem_allMnemonics (m : Mnemonic) : m ∈ allMnemonics := by
  cases m <;> decide

/-- An instruction leaves a part alone when its mnemonic is outside a list that holds every mnemonic writing the part. -/
theorem exec_same {i : Instr} {s t : State} (h : exec i s = .next t) {q : Part} {writers : List Mnemonic}
    (hi : i.mnemonic ∉ writers)
    (hw : ∀ m ∈ allMnemonics, ∀ acc imm, q ∈ writtenParts m acc imm → m ∈ writers) : q.Same s t :=
  (exec_effect i s t h).1.same fun hq => hi (hw _ (mem_allMnemonics _) _ _ hq)

/-- The same but for the accumulator forms. -/
theorem exec_same_of_notAcc {i : Instr} {s t : State} (h : exec i s = .next t) (hacc : i.mode ≠ .acc) {q : Part}
    {writers : List Mnemonic} (hi : i.mnemonic ∉ writers)
    (hw : ∀ m ∈ allMnemonics, ∀ imm, q ∈ writtenParts m false imm → m ∈ writers) : q.Same s t := by
  refine (exec_effect i s t h).1.same ?_
  rw [instrWrites, decide_eq_false hacc]
  exact fun hq => hi (hw _ (mem_allMnemonics _) _ hq)

/-- BIT # writes Z alone (R265). -/
theorem exec_same_of_bitImm {i : Instr} {s t : State} (h : exec i s = .next t) (hbit : i.mnemonic = .bit ∧ i.mode = .immM)
    {q : Part} (hq : q ≠ .flagZ) : q.Same s t := by
  refine (exec_effect i s t h).1.same ?_
  simpa [instrWrites, hbit, writtenParts] using hq

/-! ### The frame statements -/

/-- Settles O55: the frame of every instruction, with the writers of each register looked up in the table of written parts. -/
theorem registersWrittenOnlyByTheirInstructions : Obligations.RegistersWrittenOnlyByTheirInstructions := by
  intro i s t h
  exact ⟨fun hm hacc => exec_same_of_notAcc (q := .a) h hacc hm (by decide),
    fun hm => exec_same (q := .x) h hm (by decide), fun hm => exec_same (q := .y) h hm (by decide),
    fun hm => exec_same (q := .sp) h hm (by decide), fun hm => exec_same (q := .d) h hm (by decide),
    fun hm => exec_same (q := .dbr) h hm (by decide), fun hm => exec_same (q := .k) h hm (by decide),
    fun hm => exec_same (q := .e) h (mt List.mem_singleton.1 hm) (by decide),
    fun hm => exec_same (q := .waiting) h (mt List.mem_singleton.1 hm) (by decide),
    fun hm => exec_same (q := .stopped) h (mt List.mem_singleton.1 hm) (by decide),
    exec_same (q := .pending) h List.not_mem_nil (by decide), exec_same (q := .vt) h List.not_mem_nil (by decide),
    exec_same (q := .opAddr) h List.not_mem_nil (by decide), exec_same (q := .draws) h List.not_mem_nil (by decide)⟩

/-- Settles O56: the same table, flag by flag, BIT # apart. -/
theorem flagsWrittenOnlyByTheirInstructions : Obligations.FlagsWrittenOnlyByTheirInstructions := by
  intro i s t h
  refine ⟨?_, ?_, fun hm => ⟨exec_same (q := .flagM) h hm (by decide), exec_same (q := .flagX) h hm (by decide)⟩,
    fun hm => exec_same (q := .flagD) h hm (by decide), fun hm => exec_same (q := .flagI) h hm (by decide),
    fun hm => exec_same (q := .flagZ) h hm (by decide), fun hm => exec_same (q := .flagC) h hm (by decide)⟩
  · rintro (hm | hbit)
    · exact exec_same (q := .flagN) h hm (by decide)
    · exact exec_same_of_bitImm (q := .flagN) h hbit (by decide)
  · rintro (hm | hbit)
    · exact exec_same (q := .flagV) h hm (by decide)
    · exact exec_same_of_bitImm (q := .flagV) h hbit (by decide)

end Sys2Proof.Machine
end

section
/-! PROOFS. What one step can do, the invariant it keeps, and what only a dispatch does (R37-R39, R400-R403, R413, R430). -/

namespace Sys2Proof.Machine

/-! ### The cases of a step -/

/-- A step answers a next state only without a recorded fault, and then it is idle, dispatches or executes (R400, R403). -/
theorem step_cases {s t : State} (h : step s = .next t) :
    (nextAction s = .idle ∧ t = s) ∨ (∃ k, nextAction s = .dispatch k ∧ finish (dispatch k s) = .next t) ∨
      (nextAction s = .execute ∧ executeOne s = .next t) := by
  unfold step at h
  cases hf : s.fault with
  | some f => simp [hf] at h
  | none =>
    cases ha : nextAction s with
    | idle => simp_all
    | dispatch k => simp_all
    | execute => simp_all

/-- An executing step ends in the fetch's raise or in the instruction fetched (R401). -/
theorem executeOne_cases {s t : State} (h : executeOne s = .next t) :
    (∃ i u, FetchOnly s u ∧ exec i u = .next t) ∨ ∃ f u, FetchOnly s u ∧ t = { u with fault := some f } := by
  have hfetch := fetchInstr_fetchOnly s
  unfold executeOne at h
  cases hr : fetchInstr s with
  | ok i u => exact .inl ⟨i, u, hfetch.of_ok hr, by simpa [hr] using h⟩
  | raise f u =>
    rw [hr] at h hfetch
    cases h
    exact .inr ⟨f, u, hfetch, rfl⟩

theorem executeOne_keepsInv {s t : State} (h : executeOne s = .next t) : KeepsInv s t := by
  rcases executeOne_cases h with ⟨i, u, hu, hi⟩ | ⟨f, u, hu, rfl⟩
  · exact hu.keepsInv.trans (exec_keepsInv hi)
  · exact hu.keepsInv

/-- No executing step touches the request slot or the vector table. -/
theorem executeOne_pending_vt {s t : State} (h : executeOne s = .next t) : t.pending = s.pending ∧ t.vt = s.vt := by
  rcases executeOne_cases h with ⟨i, u, hu, hi⟩ | ⟨f, u, hu, rfl⟩
  · exact ⟨(hu.changes.same (q := .pending) (by decide)).trans (exec_same (q := .pending) hi List.not_mem_nil (by decide)),
      (hu.changes.same (q := .vt) (by decide)).trans (exec_same (q := .vt) hi List.not_mem_nil (by decide))⟩
  · exact ⟨hu.changes.same (q := .pending) (by decide), hu.changes.same (q := .vt) (by decide)⟩

/-! ### The choice of R400 -/

theorem nextAction_execute {s : State} (h : nextAction s = .execute) : s.waiting = false ∧ s.stopped = false := by
  unfold nextAction at h
  cases hstop : s.stopped with
  | true => simp [hstop, ite_eq_iff] at h
  | false =>
    refine ⟨?_, rfl⟩
    by_contra hwait
    cases hp : s.pending with
    | none => simp [hstop, hwait, hp] at h
    | some k => simp [hstop, hwait, hp, ite_eq_iff] at h

/-- What is dispatched is the pending request, and on a stopped machine it is RESET (R39, R400). -/
theorem nextAction_dispatch {s : State} {k : IntKind} (h : nextAction s = .dispatch k) :
    s.pending = some k ∧ (s.stopped = true → k = .reset) := by
  unfold nextAction at h
  cases hstop : s.stopped with
  | true =>
    obtain ⟨hp, rfl⟩ : s.pending = some .reset ∧ IntKind.reset = k := by simpa [hstop, ite_eq_iff] using h
    exact ⟨hp, fun _ => rfl⟩
  | false =>
    refine ⟨?_, nofun⟩
    cases hp : s.pending with
    | none => simp [hstop, hp, ite_eq_iff] at h
    | some k' => simp_all [ite_eq_iff]

/-! ### The invariant -/

/-- A collaborator's write of a shared cell keeps the state well-formed (R470). -/
theorem State.writeCell_keepsInv (s : State) (o : Nat) (v : Byte) : KeepsInv s (s.writeCell o v) := by
  unfold State.writeCell
  split
  · rename_i ho
    have hcell : isCellOffset o = true := by
      simp only [isSharedCell, Bool.and_eq_true] at ho
      exact ho.1.1
    exact keepsInv_of (fun hs => State.writeCells_memoriesOk v s.mdr hs hcell) fun hs => hs
  · exact KeepsInv.refl s

theorem HostEvent.apply_keepsInv (ev : HostEvent) (s : State) : KeepsInv s (ev.apply s) := by
  cases ev with
  | setRequest k => exact fun hs => hs
  | reset => exact KeepsInv.trans (t := { s with pending := none, waiting := false }) (fun hs => hs) (State.resetFree_keepsInv _)
  | writeCell o v => exact s.writeCell_keepsInv o v

theorem step_keepsInv {s t : State} (h : step s = .next t) : KeepsInv s t := by
  rcases step_cases h with ⟨_, rfl⟩ | ⟨k, _, hk⟩ | ⟨_, he⟩
  · exact KeepsInv.refl t
  · exact finish_keepsInv (dispatch_keepsInv k s) hk
  · exact executeOne_keepsInv he

/-- Settles O54: each kind of step, and each event of another agent, keeps the invariant. -/
theorem stepKeepsTheInvariant : Obligations.StepKeepsTheInvariant :=
  ⟨fun _ _ hs h => step_keepsInv h hs, fun ev s hs => ev.apply_keepsInv s hs⟩

/-- Settles O53: reset lists nothing in any memory, and its named values keep the width rules. -/
theorem resetIsWellFormed : Obligations.ResetIsWellFormed := by
  unfold Obligations.ResetIsWellFormed
  rw [State.inv_iff, memoriesOk_iff, State.widthsOk_iff]
  decide

/-! ### What only a dispatch does -/

/-- Every dispatch empties the request slot (R420, R480). -/
theorem dispatch_pending (k : IntKind) (s : State) : (dispatch k s).All fun t => t.pending = none := by
  have hk (k' : IntKind) (u : State) (hu : u.pending = none) : (enter k' u).All fun t => t.pending = none :=
    (enter_changes u k').mono fun _ h => Eq.trans (h.same (q := .pending) (by decide)) hu
  unfold dispatch
  cases k with
  | reset => rfl
  | _ => exact hk _ _ rfl

theorem dispatch_vt (k : IntKind) (s : State) : (dispatch k s).All fun t => t.vt = s.vt := by
  by_cases hk : k = .reset
  · subst hk
    rfl
  · exact (dispatch_changes s hk).mono fun _ h => h.same (q := .vt) (by decide)

/-- Settles O60: by the kind of the step. -/
theorem onlyDispatchEndsWaitsAndRequests : Obligations.OnlyDispatchEndsWaitsAndRequests := by
  intro s t h
  rcases step_cases h with ⟨hact, rfl⟩ | ⟨k, hact, hk⟩ | ⟨hact, he⟩
  · simp_all
  · obtain ⟨hpending, hstopped⟩ := nextAction_dispatch hact
    refine ⟨fun _ => ⟨finish_all (dispatch_pending k s) (fun _ _ h => h) hk, k, hpending, hact⟩, fun _ _ => ⟨k, hact⟩,
      fun hs _ => hstopped hs ▸ hact, ?_, finish_all (dispatch_vt k s) (fun _ _ h => h) hk⟩
    intro k' hact' hreset
    obtain rfl : k' = k := Action.dispatch.inj (hact'.symm.trans hact)
    have hc := finish_all (dispatch_changes s hreset) (fun _ _ h => h.withFault) hk
    exact ⟨hc.same (q := .e) (by decide), hc.same (q := .d) (by decide), hc.same (q := .dbr) (by decide),
      hc.same (q := .flagM) (by decide), hc.same (q := .flagX) (by decide), hc.same (q := .a) (by decide),
      hc.same (q := .x) (by decide), hc.same (q := .y) (by decide)⟩
  · obtain ⟨hpending, hvt⟩ := executeOne_pending_vt he
    obtain ⟨hwait, hstop⟩ := nextAction_execute hact
    simp_all

end Sys2Proof.Machine
end

section
/-! PROOFS. The width-aware accessors and the byte view of P (R24, R25, R30, R33). -/

namespace Sys2Proof.Machine

open Sys2Proof.Claims

/-! ### Bytes of a word as masks -/

theorem mkWord_getLsbD (hi lo : Byte) (i : Nat) :
    (mkWord hi lo).getLsbD i = if i < 8 then lo.getLsbD i else hi.getLsbD (i - 8) :=
  BitVec.getLsbD_append

theorem mkWord_hiByte_loByte_eq_or (u v : Word) : mkWord (hiByte u) (loByte v) = (u &&& 0xFF00) ||| (v &&& 0x00FF) := by
  apply BitVec.eq_of_getLsbD_eq
  intro i hi
  rw [mkWord_getLsbD]
  interval_cases i <;> simp [hiByte, loByte]

theorem zext8_loByte_eq_and (v : Word) : zext8 (loByte v) = v &&& 0x00FF := by
  apply BitVec.eq_of_toNat_eq
  rw [zext8_toNat, loByte_toNat, BitVec.toNat_and]
  exact (Nat.and_two_pow_sub_one_eq_mod v.toNat 8).symm

/-- Truncation to the width that a flag selects (R23). -/
theorem trunc_of_flag (b : Bool) (v : Word) : trunc (if b then .w8 else .w16) v = if b then v &&& 0x00FF else v := by
  cases b
  · rfl
  · exact zext8_loByte_eq_and v

/-! ### The accessors -/

section Accessors

variable (s : State)

theorem State.getA_eq_viewA : s.getA = viewA s := trunc_of_flag s.p.m s.a

theorem State.getX_eq_viewX : s.getX = viewX s := trunc_of_flag s.p.x s.x

theorem State.getY_eq_viewY : s.getY = viewY s := trunc_of_flag s.p.x s.y

theorem State.setA_eq_putA (v : Word) : s.setA v = putA v s := by
  unfold State.setA putA State.wM
  cases s.p.m
  · rfl
  · simp [mkWord_hiByte_loByte_eq_or]

theorem State.setX_eq_putX (v : Word) : s.setX v = putX v s := by
  unfold State.setX putX State.wX
  rw [trunc_of_flag]

theorem State.setY_eq_putY (v : Word) : s.setY v = putY v s := by
  unfold State.setY putY State.wX
  rw [trunc_of_flag]

/-- Under the width rules the index views are the whole cells (R22, R25). -/
theorem State.getX_getY_of_widthsOk (h : s.widthsOk = true) : s.getX = s.x ∧ s.getY = s.y := by
  obtain ⟨hindex, -⟩ := s.widthsOk_iff.1 h
  unfold State.getX State.getY State.wX
  cases hx : s.p.x with
  | false => exact ⟨rfl, rfl⟩
  | true => exact ⟨zext8_loByte_of_hiByte _ (hindex hx).1, zext8_loByte_of_hiByte _ (hindex hx).2⟩

end Accessors

/-- Settles O6, accessor by accessor. -/
theorem accessorsFollowTheWidths : Obligations.AccessorsFollowTheWidths := fun s v =>
  ⟨⟨s.getA_eq_viewA, s.setA_eq_putA v⟩, ⟨s.getX_eq_viewX, s.setX_eq_putX v⟩, ⟨s.getY_eq_viewY, s.setY_eq_putY v⟩,
    s.getX_getY_of_widthsOk⟩

/-! ### P -/

theorem shiftLeft_or_toNat (n : Nat) (b : Bool) : n <<< 1 ||| b.toNat = 2 * n + b.toNat := by
  rw [← Nat.shiftLeft_add_eq_or_of_lt (Bool.toNat_lt b), Nat.shiftLeft_eq, Nat.mul_comm]

/-- The bit positions of P (R30). -/
theorem Flags.toByte_toNat (p : Flags) : p.toByte.toNat = 128 * p.n.toNat + 64 * p.v.toNat + 32 * p.m.toNat +
    16 * p.x.toNat + 8 * p.d.toNat + 4 * p.i.toNat + 2 * p.z.toNat + p.c.toNat := by
  simp only [Flags.toByte, BitVec.toNat_append, BitVec.toNat_ofBool, shiftLeft_or_toNat]
  omega

/-- Setting bits 5 and 4 of the byte sets M and X. -/
theorem Flags.ofByte_or_widths (v : Byte) : Flags.ofByte (v ||| 0x30) = { Flags.ofByte v with m := true, x := true } := by
  simp [Flags.ofByte]

theorem State.writtenP_eq (s : State) (v : Byte) : s.writtenP v = Flags.ofByte (if s.e then v ||| 0x30 else v) := by
  unfold State.writtenP
  cases s.e
  · rfl
  · exact (Flags.ofByte_or_widths v).symm

theorem State.writeP_eq_statusWritten (s : State) (v : Byte) : s.writeP v = statusWritten v s := by
  unfold State.writeP statusWritten
  rw [State.writtenP_eq, zext8_loByte_eq_and, zext8_loByte_eq_and]
  rfl

/-- Settles O7. -/
theorem writePKeepsTheWidthRules : Obligations.WritePKeepsTheWidthRules :=
  ⟨fun p => ⟨p.toByte_toNat, Flags.ofByte_toByte p⟩, State.writeP_eq_statusWritten⟩

end Sys2Proof.Machine
end

section
/-! PROOFS. The bus: the address decoder's table, what a read and a write do in each region, and the mirroring, round-trip and
open-bus laws (R71, R78, R80-R82, R105). -/

namespace Sys2Proof.Machine

open Sys2Proof.Claims

/-! ### The address decoder, in plain ranges -/

theorem isMirrorBank_iff (n : Nat) : isMirrorBank n = true ↔ n ≤ 0x3F ∨ (0x80 ≤ n ∧ n ≤ 0xBF) := by
  simp [isMirrorBank]

/-! In a register-mirror bank the offset alone chooses the region. -/

section MirrorBank

variable {b : Byte} (hb : isMirrorBank b.toNat = true) {off : Word}
include hb

theorem decodeAddr_mirrorBank_wram (h : off.toNat ≤ 0x1FFF) : decodeAddr (mkAddr b off) = .wram off.toNat := by
  simp [decodeAddr, hb, h]

theorem decodeAddr_mirrorBank_openBus (h : (0x2000 ≤ off.toNat ∧ off.toNat ≤ 0x20FF) ∨
    (0x2200 ≤ off.toNat ∧ off.toNat ≤ 0x3FFF) ∨ (0x4400 ≤ off.toNat ∧ off.toNat ≤ 0x7FFF)) :
    decodeAddr (mkAddr b off) = .openBus := by
  simp only [decodeAddr, bankOf_mkAddr, offOf_mkAddr, hb, if_true]
  grind

theorem decodeAddr_mirrorBank_reg (h : isCellOffset off.toNat = true) : decodeAddr (mkAddr b off) = .reg off.toNat := by
  simp only [isCellOffset, Bool.or_eq_true, decide_eq_true_eq] at h
  simp only [decodeAddr, bankOf_mkAddr, offOf_mkAddr, hb, if_true]
  grind

theorem decodeAddr_mirrorBank_cart (h : 0x8000 ≤ off.toNat) : decodeAddr (mkAddr b off) = .cart (mkAddr b off) := by
  simp only [decodeAddr, bankOf_mkAddr, offOf_mkAddr, hb, if_true]
  grind

end MirrorBank

theorem decodeAddr_cartBank {b : Byte} (hb : (0x40 ≤ b.toNat ∧ b.toNat ≤ 0x7D) ∨ 0xC0 ≤ b.toNat) (off : Word) :
    decodeAddr (mkAddr b off) = .cart (mkAddr b off) := by
  have hmirror : ¬isMirrorBank b.toNat = true := by rw [isMirrorBank_iff]; omega
  have hcart : b.toNat ≤ 0x7D ∨ 0xC0 ≤ b.toNat := by omega
  simp [decodeAddr, hmirror, hcart]

theorem decodeAddr_wramBank {b : Byte} (hb : b.toNat = 0x7E ∨ b.toNat = 0x7F) (off : Word) :
    decodeAddr (mkAddr b off) = .wram ((b.toNat - 0x7E) * 0x10000 + off.toNat) := by
  have hmirror : ¬isMirrorBank b.toNat = true := by rw [isMirrorBank_iff]; omega
  have hcart : ¬(b.toNat ≤ 0x7D ∨ 0xC0 ≤ b.toNat) := by omega
  have hwram : b.toNat ≤ 0x7F := by omega
  simp [decodeAddr, hmirror, hcart, hwram]

/-- Settles O8, by the three kinds of bank. -/
theorem addressDecoderTable : Obligations.AddressDecoderTable := by
  intro _ off
  refine ⟨fun hb => ?_, fun hb => decodeAddr_cartBank hb off, fun hb => decodeAddr_wramBank hb off⟩
  have hmirror := (isMirrorBank_iff _).2 hb
  have hreg : ∀ o : Nat, (0x2100 ≤ o ∧ o ≤ 0x21FF) ∨ (0x4000 ≤ o ∧ o ≤ 0x43FF) → isCellOffset o = true := by
    simp [isCellOffset]
  exact ⟨decodeAddr_mirrorBank_wram hmirror,
    fun h1 h2 => decodeAddr_mirrorBank_openBus hmirror (.inl ⟨h1, h2⟩),
    fun h1 h2 => decodeAddr_mirrorBank_reg hmirror (hreg _ (.inl ⟨h1, h2⟩)),
    fun h1 h2 => decodeAddr_mirrorBank_openBus hmirror (.inr (.inl ⟨h1, h2⟩)),
    fun h1 h2 => decodeAddr_mirrorBank_reg hmirror (hreg _ (.inr ⟨h1, h2⟩)),
    fun h1 h2 => decodeAddr_mirrorBank_openBus hmirror (.inr (.inr ⟨h1, h2⟩)),
    decodeAddr_mirrorBank_cart hmirror⟩

/-! ### Reads by region (R80) -/

section Reads

variable {a : Addr} {s : State}

theorem memRead_wram {i : Nat} (h : decodeAddr a = .wram i) :
    memRead a s = .ok (s.wram.read i) { s with mdr := s.wram.read i } := by
  simp [memRead, h, readLatched]

theorem memRead_reg {o : Nat} (h : decodeAddr a = .reg o) :
    memRead a s = .ok (s.cells.read o) { s with mdr := s.cells.read o } := by
  simp [memRead, h, readLatched]

theorem memRead_openBus (h : decodeAddr a = .openBus) : memRead a s = .ok s.mdr s := by
  simp [memRead, h, readLatched]

theorem memRead_cart_byte {v : Byte} {c : Cart} (h : decodeAddr a = .cart a) (hc : cartRead s.cart a = (.byte v, c)) :
    memRead a s = .ok v { s with mdr := v, cart := c } := by
  simp [memRead, h, hc, readLatched]

theorem memRead_cart_undriven {c : Cart} (h : decodeAddr a = .cart a) (hc : cartRead s.cart a = (.undriven, c)) :
    memRead a s = .ok s.mdr { s with cart := c } := by
  simp [memRead, h, hc, readLatched]

theorem memRead_cart_unsupported {c : Cart} (h : decodeAddr a = .cart a) (hc : cartRead s.cart a = (.unsupported, c)) :
    memRead a s = .raise (.cartUnsupported a .read s.opAddr) { s with cart := c } := by
  simp [memRead, h, hc]

end Reads

/-- Settles O9, region by region. -/
theorem busReadReturnsAndLatches : Obligations.BusReadReturnsAndLatches := fun _ _ =>
  ⟨fun _ => memRead_wram, fun _ => memRead_reg, memRead_openBus, fun h =>
    ⟨fun _ _ => memRead_cart_byte h, fun _ => memRead_cart_undriven h, fun _ => memRead_cart_unsupported h⟩⟩

/-! ### Writes by region (R81, R82) -/

section Writes

variable {a : Addr} {v : Byte} {s : State}

theorem memWrite_wram {i : Nat} (h : decodeAddr a = .wram i) :
    memWrite a v s = .ok () { s with mdr := v, wram := s.wram.write i v } := by
  rw [memWrite_eq_storeByte (by simp [h])]
  simp [storeByte, h]

theorem memWrite_reg {o : Nat} (h : decodeAddr a = .reg o) (ho : o ≠ 0x420B) :
    memWrite a v s = .ok () { s with mdr := v, cells := s.cells.write o v } := by
  rw [memWrite_eq_storeByte (by simp [h, ho])]
  simp [storeByte, h]

/-- A write of the DMA-enable register stores the cell, then runs the engine (R82). -/
theorem memWrite_dmaEnable (h : decodeAddr a = .reg 0x420B) :
    memWrite a v s = dmaTrigger v { s with mdr := v, cells := s.cells.write 0x420B v } := by
  simp [memWrite, storeByte, h]

theorem memWrite_openBus (h : decodeAddr a = .openBus) : memWrite a v s = .ok () { s with mdr := v } := by
  rw [memWrite_eq_storeByte (by simp [h])]
  simp [storeByte, h]

theorem memWrite_cart {c : Cart} (h : decodeAddr a = .cart a) (hc : cartWrite s.cart a v = some c) :
    memWrite a v s = .ok () { s with mdr := v, cart := c } := by
  rw [memWrite_eq_storeByte (by simp [h])]
  simp [storeByte, h, hc]

theorem memWrite_cart_unsupported (h : decodeAddr a = .cart a) (hc : cartWrite s.cart a v = none) :
    memWrite a v s = .raise (.cartUnsupported a .write s.opAddr) { s with mdr := v } := by
  rw [memWrite_eq_storeByte (by simp [h])]
  simp [storeByte, h, hc]

end Writes

/-- Settles O10, region by region. -/
theorem busWriteStoresAndLatches : Obligations.BusWriteStoresAndLatches := fun _ _ _ =>
  ⟨fun _ => memWrite_wram, fun _ => memWrite_reg, memWrite_dmaEnable, memWrite_openBus, fun h =>
    ⟨fun _ => memWrite_cart h, memWrite_cart_unsupported h⟩⟩

/-! ### The mirroring law (R78) -/

/-- Two addresses of the same region outside the cartridge read as one. -/
theorem memRead_eq_of_decodeAddr_eq {a a' : Addr} (h : decodeAddr a' = decodeAddr a) (s : State) :
    memRead a' s = memRead a s := by
  have hne := decodeAddr_ne_undecoded a
  unfold memRead
  rw [h]
  cases hd : decodeAddr a with
  | undecoded => exact absurd hd hne
  | _ => rfl

/-- The cartridge's answer depends on the address without its mirror (R76). -/
theorem cartRead_answer_eq {a a' : Addr} (h : cartKey a' = cartKey a) (c : Cart) : (cartRead c a').1 = (cartRead c a).1 := by
  unfold cartRead
  rw [h]
  cases sparseRead CartCell.undriven c.cells (cartKey a) <;> rfl

/-- Two cartridge addresses with one key answer a read with the same byte. -/
theorem memRead_ok_of_cartKey_eq {a a' : Addr} (hd : decodeAddr a = .cart a) (hd' : decodeAddr a' = .cart a')
    (hkey : cartKey a' = cartKey a) {s t : State} {v : Byte} (h : memRead a s = .ok v t) :
    ∃ t', memRead a' s = .ok v t' := by
  have hans := cartRead_answer_eq hkey s.cart
  cases hc : cartRead s.cart a with
  | mk ans c =>
    cases hc' : cartRead s.cart a' with
    | mk ans' c' =>
      obtain rfl : ans' = ans := by simpa [hc, hc'] using hans
      cases ans' with
      | byte w =>
        obtain ⟨rfl, -⟩ := Res.ok.inj ((memRead_cart_byte hd hc).symm.trans h)
        exact ⟨_, memRead_cart_byte hd' hc'⟩
      | undriven =>
        obtain ⟨rfl, -⟩ := Res.ok.inj ((memRead_cart_undriven hd hc).symm.trans h)
        exact ⟨_, memRead_cart_undriven hd' hc'⟩
      | unsupported => exact nomatch (memRead_cart_unsupported hd hc).symm.trans h

section Mirror

variable {b : Byte} (hb : b.toNat ≤ 0x3F)
include hb

theorem mirror_toNat : (b + 0x80).toNat = b.toNat + 0x80 := by
  simp [BitVec.toNat_add]
  omega

theorem isMirrorBank_of_mirror : isMirrorBank b.toNat = true ∧ isMirrorBank (b + 0x80).toNat = true := by
  rw [isMirrorBank_iff, isMirrorBank_iff, mirror_toNat hb]
  omega

theorem cartKey_mirror (off : Word) : cartKey (mkAddr (b + 0x80) off) = cartKey (mkAddr b off) := by
  obtain ⟨hbank, hbank'⟩ := isMirrorBank_of_mirror hb
  simp only [cartKey, bankOf_mkAddr, hbank, hbank', if_true, mkAddr_toNat]
  rw [mirror_toNat hb]
  omega

/-- Bank b + 0x80 has the region of bank b below offset 0x8000, and the cartridge above it, as bank b has. -/
theorem decodeAddr_mirror (off : Word) :
    decodeAddr (mkAddr (b + 0x80) off) = decodeAddr (mkAddr b off) ∨
      (decodeAddr (mkAddr b off) = .cart (mkAddr b off) ∧
        decodeAddr (mkAddr (b + 0x80) off) = .cart (mkAddr (b + 0x80) off)) := by
  obtain ⟨hbank, hbank'⟩ := isMirrorBank_of_mirror hb
  rcases Nat.lt_or_ge off.toNat 0x8000 with hoff | hoff
  · have hlow : off.toNat ≤ 0x7FFF := by omega
    left
    simp only [decodeAddr, bankOf_mkAddr, offOf_mkAddr, hbank, hbank', hlow, if_true]
  · exact .inr ⟨decodeAddr_mirrorBank_cart hbank hoff, decodeAddr_mirrorBank_cart hbank' hoff⟩

end Mirror

/-- Settles O11: the two banks have the same region or the same cartridge key. -/
theorem mirrorBanksReadAlike : Obligations.MirrorBanksReadAlike := by
  intro b off s hb _
  have hkey := cartKey_mirror hb off
  rcases decodeAddr_mirror hb off with heq | ⟨hd, hd'⟩
  · rw [memRead_eq_of_decodeAddr_eq heq]
    exact ⟨fun v t h => ⟨t, h⟩, fun v t h => ⟨t, h⟩⟩
  · exact ⟨fun v t => memRead_ok_of_cartKey_eq hd hd' hkey, fun v t => memRead_ok_of_cartKey_eq hd' hd hkey.symm⟩

/-! ### The round-trip and open-bus laws (R105) -/

/-- A byte written in WRAM is read back. -/
theorem memRead_memWrite_wram {a : Addr} {i : Nat} (h : decodeAddr a = .wram i) (v : Byte) {s : State}
    (hs : s.memoriesOk = true) : ∃ t, memWrite a v s = .ok () t ∧ memRead a t = .ok v t := by
  obtain ⟨⟨hwf, -⟩, -⟩ := (memoriesOk_iff s).1 hs
  refine ⟨_, memWrite_wram h, ?_⟩
  rw [memRead_wram h]
  simp [Memory.read_write_same _ _ _ hwf]

/-- The latch takes the byte of every plain store (R81). -/
theorem storeByte_mdr (a : Addr) (v : Byte) (s : State) : (storeByte a v s).All fun t => t.mdr = v := by
  unfold storeByte
  cases decodeAddr a with
  | cart c =>
    dsimp only
    cases cartWrite s.cart c v <;> rfl
  | _ => rfl

/-- Settles O12: WRAM gives the byte back, and the latch keeps it for the open bus. -/
theorem roundTripAndOpenBus : Obligations.RoundTripAndOpenBus := by
  constructor
  · intro a v s hs hbank
    have hb : (bankOf a).toNat = 0x7E ∨ (bankOf a).toNat = 0x7F := by rcases hbank with h | h <;> simp [h]
    have hd := decodeAddr_wramBank hb (offOf a)
    rw [mkAddr_bankOf_offOf] at hd
    exact memRead_memWrite_wram hd v hs
  · intro a v s t hdma h
    rw [memWrite_eq_storeByte hdma] at h
    have hmdr : t.mdr = v := (storeByte_mdr a v s).of_ok h
    rw [memRead_openBus (by decide), hmdr]

end Sys2Proof.Machine
end

section
/-! PROOFS. The stack primitives with the page-1 pin of S, and a word on a stack in WRAM (R28, R87, R95-R98). -/

namespace Sys2Proof.Machine

open Sys2Proof.Claims

/-! ### The pin of S (R28) -/

theorem mkWord_one_loByte (v : Word) : mkWord 0x01 (loByte v) = 0x0100 ||| (v &&& 0x00FF) :=
  mkWord_hiByte_loByte_eq_or 0x0100 v

theorem pinned_true (v : Word) : pinned true v = mkWord 0x01 (loByte v) := (mkWord_one_loByte v).symm

@[simp] theorem pinned_false (v : Word) : pinned false v = v := rfl

theorem pinned_true_toNat (v : Word) : (pinned true v).toNat = 256 + v.toNat % 256 := by
  rw [pinned_true, mkWord_toNat, loByte_toNat]
  rfl

theorem State.setS_eq_pinned (s : State) (v : Word) : s.setS v = { s with sp := pinned s.e v } := by
  unfold State.setS pinned
  rw [mkWord_one_loByte]

/-- S moves as its low byte does while it is pinned: a pin between two moves is lost. -/
theorem pinned_pinned_add (e : Bool) (v w : Word) : pinned e (pinned e v + w) = pinned e (v + w) := by
  cases e with
  | false => rfl
  | true =>
    apply BitVec.eq_of_toNat_eq
    simp only [pinned_true_toNat, BitVec.toNat_add]
    omega

theorem pinned_pinned_sub (e : Bool) (v w : Word) : pinned e (pinned e v - w) = pinned e (v - w) := by
  simp only [BitVec.sub_eq_add_neg, pinned_pinned_add]

/-- Stack places fewer than 0x100 bytes apart are distinct, also in page 1. -/
theorem pinned_sub_ne (e : Bool) (v : Word) {j k : Nat} (hjk : j < k) (hk : k < 0x100) :
    pinned e (v - BitVec.ofNat 16 k) ≠ pinned e (v - BitVec.ofNat 16 j) := by
  intro h
  have hnat := congrArg BitVec.toNat h
  have hv := v.isLt
  cases e with
  | false =>
    simp only [pinned_false, BitVec.toNat_sub, BitVec.toNat_ofNat] at hnat
    omega
  | true =>
    simp only [pinned_true_toNat, BitVec.toNat_sub, BitVec.toNat_ofNat] at hnat
    omega

/-! ### The primitives (R95-R98) -/

theorem push8_of_memWrite {v : Byte} {s s1 : State} (h : memWrite (mkAddr 0 s.sp) v s = .ok () s1) :
    push8 v s = .ok () { s1 with sp := pinned s.e (s.sp - 1) } := by
  have hbus := (memWrite_busOnly _ v s).of_ok h
  unfold push8
  rw [h, Res.ok_bind, State.setS_eq_pinned, hbus.e_eq, hbus.sp_eq]

theorem pop8_eq_memRead (s : State) :
    pop8 s = memRead (mkAddr 0 (pinned s.e (s.sp + 1))) { s with sp := pinned s.e (s.sp + 1) } := by
  unfold pop8
  rw [State.setS_eq_pinned]

theorem push16_of_push8 {v : Word} {s s1 : State} (h : push8 (hiByte v) s = .ok () s1) : push16 v s = push8 (loByte v) s1 := by
  unfold push16
  rw [h, Res.ok_bind]

theorem pop16_of_pop8 {lo hi : Byte} {s s1 s2 : State} (hlo : pop8 s = .ok lo s1) (hhi : pop8 s1 = .ok hi s2) :
    pop16 s = .ok (mkWord hi lo) s2 := by
  unfold pop16
  rw [hlo, Res.ok_bind, hhi, Res.ok_bind]

/-- Settles O19, primitive by primitive. -/
theorem stackPrimitives : Obligations.StackPrimitives :=
  ⟨fun _ _ _ => push8_of_memWrite, pop8_eq_memRead, fun _ _ _ => push16_of_push8, fun _ _ _ _ _ => pop16_of_pop8⟩

/-! ### A stack in WRAM -/

theorem decodeAddr_bank0_wram {off : Word} (h : off.toNat ≤ 0x1FFF) : decodeAddr (mkAddr 0 off) = .wram off.toNat :=
  decodeAddr_mirrorBank_wram (by decide) h

theorem push8_wram {s : State} (v : Byte) (h : s.sp.toNat ≤ 0x1FFF) :
    push8 v s = .ok () { s with sp := pinned s.e (s.sp - 1), mdr := v, wram := s.wram.write s.sp.toNat v } :=
  push8_of_memWrite (memWrite_wram (decodeAddr_bank0_wram h))

theorem pop8_wram {s : State} (h : (pinned s.e (s.sp + 1)).toNat ≤ 0x1FFF) :
    pop8 s = .ok (stackByte s (pinned s.e (s.sp + 1)))
      { s with sp := pinned s.e (s.sp + 1), mdr := stackByte s (pinned s.e (s.sp + 1)) } := by
  rw [pop8_eq_memRead, memRead_wram (decodeAddr_bank0_wram h)]
  rfl

section StackInWram

variable {s : State} {n : Nat} (h : stackInWram s n = true)
include h

/-- In emulation mode S is in page 1; in native mode `n` bytes lie below offset 0x2000 without a wrap. -/
theorem stackInWram_cases : (s.e = true ∧ hiByte s.sp = 0x01) ∨ (s.e = false ∧ n ≤ s.sp.toNat + 1 ∧ s.sp.toNat < 0x2000) := by
  unfold stackInWram at h
  cases he : s.e with
  | true => simpa [he] using h
  | false => simpa [he] using h

theorem pinned_sp_of_stackInWram : pinned s.e s.sp = s.sp := by
  rcases stackInWram_cases h with ⟨he, hpage⟩ | ⟨he, -⟩
  · rw [he, pinned_true, ← hpage, mkWord_hiByte_loByte]
  · rw [he, pinned_false]

/-- Each of the next `n` bytes pushed is in the WRAM mirror of bank 0. -/
theorem stackInWram_le {k : Nat} (hk : k < n) : (pinned s.e (s.sp - BitVec.ofNat 16 k)).toNat ≤ 0x1FFF := by
  rcases stackInWram_cases h with ⟨he, -⟩ | ⟨he, hn, hsp⟩
  · rw [he, pinned_true_toNat]
    omega
  · rw [he, pinned_false, BitVec.toNat_sub, BitVec.toNat_ofNat]
    omega

end StackInWram

/-- The state after a word is pushed on a stack in WRAM. -/
def State.withPushedWord (s : State) (v : Word) : State :=
  { s with
    sp := pinned s.e (s.sp - 2), mdr := loByte v
    wram := (s.wram.write s.sp.toNat (hiByte v)).write (pinned s.e (s.sp - 1)).toNat (loByte v) }

/-- A word pulled from the places `a` and `b` of WRAM. -/
theorem pop16_wram {s : State} {a b : Word} (ha : pinned s.e (s.sp + 1) = a) (hb : pinned s.e (s.sp + 2) = b)
    (haWram : a.toNat ≤ 0x1FFF) (hbWram : b.toNat ≤ 0x1FFF) :
    pop16 s = .ok (mkWord (stackByte s b) (stackByte s a)) { s with sp := b, mdr := stackByte s b } := by
  have hnext : pinned s.e (pinned s.e (s.sp + 1) + 1) = b := by
    rw [← hb, pinned_pinned_add, BitVec.add_assoc]
    rfl
  subst ha hnext
  exact pop16_of_pop8 (pop8_wram haWram) (pop8_wram hbWram)

section PushedWord

variable {s : State} (v : Word)

/-- The place of the low byte is the first above the new S. -/
theorem withPushedWord_low_place : pinned s.e ((s.withPushedWord v).sp + 1) = pinned s.e (s.sp - 1) := by
  have hstep : s.sp - 2 + 1 = s.sp - 1 := by bv_omega
  rw [State.withPushedWord, pinned_pinned_add, hstep]

theorem withPushedWord_low (hwf : s.wram.wf = true) : stackByte (s.withPushedWord v) (pinned s.e (s.sp - 1)) = loByte v :=
  Memory.read_write_same _ _ _ (Memory.wf_write _ _ _ hwf)

variable (h : stackInWram s 2 = true)
include h

theorem stackInWram_sp_le : s.sp.toNat ≤ 0x1FFF := by
  simpa [pinned_sp_of_stackInWram h] using stackInWram_le h (k := 0) (by decide)

theorem push16_wram : push16 v s = .ok () (s.withPushedWord v) := by
  rw [push16_of_push8 (push8_wram _ (stackInWram_sp_le h)), push8_wram _ (stackInWram_le h (k := 1) (by decide))]
  simp only [pinned_pinned_sub, BitVec.sub_sub]
  rfl

/-- The place of the high byte is the second above the new S, where S was before the push. -/
theorem withPushedWord_high_place : pinned s.e ((s.withPushedWord v).sp + 2) = s.sp := by
  rw [State.withPushedWord, pinned_pinned_add, BitVec.sub_add_cancel, pinned_sp_of_stackInWram h]

theorem withPushedWord_high (hwf : s.wram.wf = true) : stackByte (s.withPushedWord v) s.sp = hiByte v := by
  have hplaces := pinned_sub_ne s.e s.sp (j := 0) (k := 1) (by decide) (by decide)
  have hne : s.sp.toNat ≠ (pinned s.e (s.sp - 1)).toNat := by
    simp only [BitVec.sub_zero, pinned_sp_of_stackInWram h] at hplaces
    exact fun heq => hplaces (BitVec.eq_of_toNat_eq heq.symm)
  exact (Memory.read_write_other _ _ _ _ hne).trans (Memory.read_write_same _ _ _ hwf)

end PushedWord

/-- Settles O20: the two bytes are in distinct places of WRAM, and the pull reads the places that the push wrote. -/
theorem stackedWordsComeBack : Obligations.StackedWordsComeBack := by
  intro v s hs h
  obtain ⟨⟨hwf, -⟩, -⟩ := (memoriesOk_iff s).1 hs
  have hlowPlace := withPushedWord_low_place (s := s) v
  have hhighPlace := withPushedWord_high_place v h
  have hlow := withPushedWord_low (s := s) v hwf
  have hhigh := withPushedWord_high v h hwf
  have hpop := pop16_wram (s := s.withPushedWord v) hlowPlace hhighPlace
    (stackInWram_le h (k := 1) (by decide)) (stackInWram_sp_le h)
  rw [hlow, hhigh, mkWord_hiByte_loByte] at hpop
  refine ⟨_, _, push16_wram v h, rfl, ?_, ?_, hpop, rfl, rfl⟩
  · exact hlowPlace ▸ hlow
  · exact hhighPlace ▸ hhigh

end Sys2Proof.Machine
end

section
/-! PROOFS. The frame of memory: an instruction form that stores nothing leaves every byte alone (R91, R154, R186). -/

namespace Sys2Proof.Machine

open Sys2Proof.Claims

/-! ### Operations that store nothing -/

/-- `t` has the memory of `s`: WRAM, the register cells and the cartridge's cells. -/
structure SameMemory (s t : State) : Prop where
  wram : t.wram = s.wram
  cells : t.cells = s.cells
  cart : t.cart.cells = s.cart.cells

namespace SameMemory

theorem refl (s : State) : SameMemory s s := ⟨rfl, rfl, rfl⟩

theorem trans {s t u : State} (h1 : SameMemory s t) (h2 : SameMemory t u) : SameMemory s u :=
  ⟨h2.wram.trans h1.wram, h2.cells.trans h1.cells, h2.cart.trans h1.cart⟩

theorem stored_eq {s t : State} (h : SameMemory s t) (a : Addr) : t.stored a = s.stored a := by
  unfold State.stored
  rw [h.wram, h.cells, h.cart]

end SameMemory

theorem PullOnly.sameMemory {s t : State} (h : PullOnly s t) : SameMemory s t := by
  rw [h]
  exact ⟨rfl, rfl, rfl⟩

theorem Res.All.pullOnly_of_readOnly {α : Type} {r : Res α} {s : State} (h : r.All (ReadOnly s)) : r.All (PullOnly s) :=
  h.mono fun _ h => h.pullOnly

theorem Res.All.bind_sameMemory {α β : Type} {r : Res α} {f : α → State → Res β} {s : State}
    (hr : r.All (PullOnly s)) (hf : ∀ v t, (f v t).All (SameMemory t)) : (r.bind f).All (SameMemory s) :=
  hr.bind (fun _ h => h.sameMemory) fun v t h => (hf v t).mono fun _ h' => h.sameMemory.trans h'

theorem returnLong_sameMemory (s : State) : (returnLong s).All (SameMemory s) :=
  (pop16_pullOnly s).bind_sameMemory fun _ t => (pop8_pullOnly t).bind_sameMemory fun _ _ => ⟨rfl, rfl, rfl⟩

theorem returnFromInterrupt_sameMemory (s : State) : (returnFromInterrupt s).All (SameMemory s) := by
  unfold returnFromInterrupt
  refine (pop8_pullOnly s).bind_sameMemory fun p s1 => ?_
  refine Res.All.mono (P := SameMemory (s1.writeP p)) ?_ fun _ h => ⟨h.wram, h.cells, h.cart⟩
  refine (pop16_pullOnly _).bind_sameMemory fun pc s2 => ?_
  dsimp only
  split
  · exact ⟨rfl, rfl, rfl⟩
  · refine Res.All.mono (P := SameMemory { s2 with pc := pc }) ?_ fun _ h => ⟨h.wram, h.cells, h.cart⟩
    exact (pop8_pullOnly _).bind_sameMemory fun _ _ => ⟨rfl, rfl, rfl⟩

/-! ### The end of an instruction -/

theorem next_sameMemory {s t u : State} (hu : (.next t : Out) = .next u) (h : SameMemory s t) : SameMemory s u := by
  cases hu
  exact h

theorem finish_sameMemory {s t : State} {r : Res Unit} (hr : r.All (SameMemory s)) (h : finish r = .next t) : SameMemory s t :=
  finish_all hr (fun _ _ h => ⟨h.wram, h.cells, h.cart⟩) h

/-- A read or a pull, then an update of the registers. -/
theorem finish_pullOnly_sameMemory {α : Type} {r : Res α} {s t : State} {g : α → State → State} (hr : r.All (PullOnly s))
    (h : finish (r.bind fun v u => .ok () (g v u)) = .next t) (hg : ∀ v u, SameMemory u (g v u)) : SameMemory s t :=
  finish_sameMemory (hr.bind_sameMemory (f := fun v u => .ok () (g v u)) hg) h

/-- The read of a memory operand, then an update of the registers. -/
theorem finish_getValue_sameMemory {mode : MemMode} {w : Width} {s t : State} {g : Word → State → State}
    (h : finish ((getValue (.mem mode) w s).bind fun v u => .ok () (g v u)) = .next t)
    (hg : ∀ v u, SameMemory u (g v u)) : SameMemory s t :=
  finish_pullOnly_sameMemory (getValue_readOnly _ w s).pullOnly_of_readOnly h hg

/-- The decimal check of ADC and SBC stores nothing (R250). -/
theorem finish_binaryOnly_sameMemory {opcode : Byte} {s t : State} {body : Res Unit}
    (h : finish (binaryOnly opcode s body) = .next t) (hbody : finish body = .next t → SameMemory s t) : SameMemory s t := by
  unfold binaryOnly at h
  split at h
  · exact finish_sameMemory (r := .raise _ s) (SameMemory.refl s) h
  · exact hbody h

/-- Every form either is one that stores or leaves memory alone. -/
theorem exec_sameMemory (i : Instr) (s : State) : storesMemory i = true ∨ ∀ t, exec i s = .next t → SameMemory s t := by
  cases i
  case staDpIndX | staSr | staDp | staDpIndL | staAbs | staLong | staDpIndY | staDpInd | staSrIndY | staDpX | staDpIndLY |
      staAbsY | staAbsX | staLongX | stxDp | stxAbs | stxDpY | styDp | styAbs | styDpX | stzDp | stzDpX | stzAbs | stzAbsX |
      mvn | mvp | incDp | incAbs | incDpX | incAbsX | decDp | decAbs | decDpX | decAbsX | tsbDp | tsbAbs | trbDp | trbAbs |
      aslDp | aslAbs | aslDpX | aslAbsX | rolDp | rolAbs | rolDpX | rolAbsX | lsrDp | lsrAbs | lsrDpX | lsrAbsX | rorDp |
      rorAbs | rorDpX | rorAbsX | jsrAbsJ | jsrAbsIndX | jsl | pha | phx | phy | php | phb | phk | phd | pea | pei | per |
      brk | cop => exact .inl rfl
  all_goals refine .inr fun t h => ?_
  case ldaDpIndX | ldaSr | ldaDp | ldaDpIndL | ldaAbs | ldaLong | ldaDpIndY | ldaDpInd | ldaSrIndY | ldaDpX | ldaDpIndLY |
      ldaAbsY | ldaAbsX | ldaLongX | ldxDp | ldxAbs | ldxDpY | ldxAbsY | ldyDp | ldyAbs | ldyDpX | ldyAbsX | cmpDpIndX |
      cmpSr | cmpDp | cmpDpIndL | cmpAbs | cmpLong | cmpDpIndY | cmpDpInd | cmpSrIndY | cmpDpX | cmpDpIndLY | cmpAbsY |
      cmpAbsX | cmpLongX | cpxDp | cpxAbs | cpyDp | cpyAbs | andDpIndX | andSr | andDp | andDpIndL | andAbs | andLong |
      andDpIndY | andDpInd | andSrIndY | andDpX | andDpIndLY | andAbsY | andAbsX | andLongX | oraDpIndX | oraSr | oraDp |
      oraDpIndL | oraAbs | oraLong | oraDpIndY | oraDpInd | oraSrIndY | oraDpX | oraDpIndLY | oraAbsY | oraAbsX |
      oraLongX | eorDpIndX | eorSr | eorDp | eorDpIndL | eorAbs | eorLong | eorDpIndY | eorDpInd | eorSrIndY | eorDpX |
      eorDpIndLY | eorAbsY | eorAbsX | eorLongX | bitDp | bitAbs | bitDpX | bitAbsX =>
    exact finish_getValue_sameMemory h fun _ _ => ⟨rfl, rfl, rfl⟩
  case adcDpIndX | adcSr | adcDp | adcDpIndL | adcAbs | adcLong | adcDpIndY | adcDpInd | adcSrIndY | adcDpX | adcDpIndLY |
      adcAbsY | adcAbsX | adcLongX | sbcDpIndX | sbcSr | sbcDp | sbcDpIndL | sbcAbs | sbcLong | sbcDpIndY | sbcDpInd |
      sbcSrIndY | sbcDpX | sbcDpIndLY | sbcAbsY | sbcAbsX | sbcLongX =>
    exact finish_binaryOnly_sameMemory h fun hbody => finish_getValue_sameMemory hbody fun _ _ => ⟨rfl, rfl, rfl⟩
  case adcImmM | sbcImmM => exact finish_binaryOnly_sameMemory h fun hbody => next_sameMemory hbody ⟨rfl, rfl, rfl⟩
  case jmpAbsInd | jmpAbsIndX =>
    exact finish_pullOnly_sameMemory (readWord_readOnly _ s).pullOnly_of_readOnly h fun _ _ => ⟨rfl, rfl, rfl⟩
  case jmlAbsIndL =>
    exact finish_pullOnly_sameMemory (readN_readOnly _ 3 s).pullOnly_of_readOnly h fun _ _ => ⟨rfl, rfl, rfl⟩
  case pla | plx | ply => exact finish_pullOnly_sameMemory (popAt_pullOnly _ s) h fun _ _ => ⟨rfl, rfl, rfl⟩
  case rts | pld => exact finish_pullOnly_sameMemory (pop16_pullOnly s) h fun _ _ => ⟨rfl, rfl, rfl⟩
  case plp | plb => exact finish_pullOnly_sameMemory (pop8_pullOnly s) h fun _ _ => ⟨rfl, rfl, rfl⟩
  case rtl => exact finish_sameMemory (returnLong_sameMemory s) h
  case rti => exact finish_sameMemory (returnFromInterrupt_sameMemory s) h
  case xce => exact next_sameMemory h ⟨s.exchangeCE_wram, s.exchangeCE_cells, congrArg Cart.cells s.exchangeCE_cart⟩
  case tax | tay | txa | tya | txy | tyx | tsx | txs | tcs | tsc | tcd | tdc | xba | inx | iny | dex | dey | bpl | bmi | bvc |
      bvs | bcc | bcs | bne | beq | bra | brl | jmpAbsJ | jmlLongJ | clc | sec | cli | sei | cld | rep | sep | sed | clv |
      wai | stp | nop | wdm | ldaImmM | ldxImmX | ldyImmX | cmpImmM | cpxImmX | cpyImmX | andImmM | oraImmM | eorImmM |
      bitImmM | incAcc | decAcc | aslAcc | rolAcc | lsrAcc | rorAcc => exact next_sameMemory h ⟨rfl, rfl, rfl⟩

/-- Settles O57. -/
theorem nonStoringInstructionsKeepMemory : Obligations.NonStoringInstructionsKeepMemory := by
  intro i s t hi h
  have hmem : SameMemory s t := (exec_sameMemory i s).resolve_left (by simp [hi]) t h
  exact ⟨hmem.wram, hmem.cells, hmem.cart, hmem.stored_eq⟩

end Sys2Proof.Machine
end

section
/-! PROOFS. The reach of a push and of a block move: every byte but the stack bytes pushed, or the destination bytes, is as before
(R95, R97, R225, R226, R421). -/

namespace Sys2Proof.Machine

open Sys2Proof.Claims

/-! ### The two ends of an operation, apart -/

/-- A completed operation leaves a state with `P`, a raise a state with `Q`. -/
def Res.Ends {α : Type} (r : Res α) (P Q : State → Prop) : Prop :=
  match r with
  | .ok _ t => P t
  | .raise _ t => Q t

theorem Res.Ends.bind {α β : Type} {r : Res α} {f : α → State → Res β} {P P' Q : State → Prop} (hr : r.Ends P Q)
    (hf : ∀ v t, P t → (f v t).Ends P' Q) : (r.bind f).Ends P' Q := by
  cases r with
  | ok v t => exact hf v t hr
  | raise e t => exact hr

theorem Res.Ends.bind_all {α β : Type} {r : Res α} {f : α → State → Res β} {P Q : State → Prop} (hr : r.Ends P Q)
    (hf : ∀ v t, P t → (f v t).All Q) : (r.bind f).All Q := by
  cases r with
  | ok v t => exact hf v t hr
  | raise e t => exact hr

theorem Res.Ends.all {α : Type} {r : Res α} {P Q : State → Prop} (hr : r.Ends P Q) (h : ∀ t, P t → Q t) : r.All Q := by
  cases r with
  | ok v t => exact h t hr
  | raise e t => exact hr

theorem Res.All.ends {α : Type} {r : Res α} {P Q : State → Prop} (hr : r.All P) (h : ∀ t, P t → Q t) : r.Ends P Q := by
  cases r with
  | ok v t => exact hr
  | raise e t => exact h t hr

theorem Res.All.and {α : Type} {r : Res α} {P Q : State → Prop} (hp : r.All P) (hq : r.All Q) :
    r.All fun t => P t ∧ Q t := by
  cases r with
  | ok v t => exact ⟨hp, hq⟩
  | raise e t => exact ⟨hp, hq⟩

/-! ### The byte at one address -/

/-- `t` holds at `b` what `s` holds there. -/
def SameAt (b : Addr) (s t : State) : Prop := t.stored b = s.stored b

theorem SameAt.trans {b : Addr} {s t u : State} (h1 : SameAt b s t) (h2 : SameAt b t u) : SameAt b s u := Eq.trans h2 h1

theorem ReadOnly.sameAt {b : Addr} {s t : State} (h : ReadOnly s t) : SameAt b s t := h.stored_eq b

theorem finish_sameAt {b : Addr} {s t : State} {r : Res Unit} (hr : r.All (SameAt b s)) (h : finish r = .next t) :
    SameAt b s t :=
  finish_all hr (fun _ _ h => h) h

/-- A write at an address starts no DMA and is no write at `b`. -/
def ClearOf (b a : Addr) : Prop := decodeAddr a ≠ .reg 0x420B ∧ sameByte a b = false

/-- A write clear of `b` changes the latch and the memories alone, and not the byte at `b`. -/
theorem memWrite_clearOf {a b : Addr} (h : ClearOf b a) (v : Byte) (s : State) :
    (memWrite a v s).All fun t => SameAt b s t ∧ BusOnly s t := by
  obtain ⟨hdma, hother⟩ := h
  exact (memWrite_all_stored hdma hother v s).and (memWrite_busOnly a v s)

/-! ### Pushes -/

/-- What `k` pushes from `s` leave: the byte at `b`, E, and S at the place of the next push. -/
structure Pushed (b : Addr) (s : State) (k : Nat) (t : State) : Prop where
  same : SameAt b s t
  e : t.e = s.e
  next : mkAddr 0 t.sp = pushAddr s k

/-- An operation that completes the first `k` pushes from `s`, or raises in one of them: the byte at `b` stays. -/
def Pushes {α : Type} (b : Addr) (s : State) (k : Nat) (r : Res α) : Prop := r.Ends (Pushed b s k) (SameAt b s)

theorem Pushes.sameAt {α : Type} {b : Addr} {s : State} {k : Nat} {r : Res α} (h : Pushes b s k r) : r.All (SameAt b s) :=
  h.all fun _ h => h.same

/-- What follows the pushes, and keeps the byte at `b` too. -/
theorem Pushes.bind_sameAt {α β : Type} {b : Addr} {s : State} {k : Nat} {r : Res α} {f : α → State → Res β}
    (h : Pushes b s k r) (hf : ∀ v t, Pushed b s k t → (f v t).All (SameAt b s)) : (r.bind f).All (SameAt b s) :=
  Res.Ends.bind_all h hf

theorem Pushed.zero (b : Addr) (s : State) : Pushed b s 0 s := ⟨rfl, rfl, rfl⟩

theorem ReadOnly.pushed_zero {b : Addr} {s t : State} (h : ReadOnly s t) : Pushed b s 0 t :=
  ⟨h.sameAt, h.e_eq, congrArg (mkAddr 0) h.sp_eq⟩

/-- The next place is one below, under the pin. -/
theorem pushAddr_succ (s : State) (k : Nat) : pushAddr s (k + 1) = mkAddr 0 (pinned s.e (offOf (pushAddr s k) - 1)) := by
  cases k with
  | zero => simp [pushAddr]
  | succ k =>
    have hdown : s.sp - BitVec.ofNat 16 (k + 1) - 1 = s.sp - BitVec.ofNat 16 (k + 1 + 1) := by
      rw [BitVec.sub_sub, BitVec.ofNat_add (k + 1) 1]
      rfl
    rw [pushAddr, pushAddr, if_neg (by omega), if_neg (by omega), offOf_mkAddr, pinned_pinned_sub, hdown]

section Push

variable {b : Addr} {s u : State} {k : Nat}

theorem push8_pushes (v : Byte) (h : Pushed b s k u) (hclear : ClearOf b (pushAddr s k)) : Pushes b s (k + 1) (push8 v u) := by
  rw [← h.next] at hclear
  refine ((memWrite_clearOf hclear v u).ends fun t ⟨hsame, _⟩ => h.same.trans hsame).bind fun _ t ⟨hsame, hbus⟩ => ?_
  rw [State.setS_eq_pinned]
  refine ⟨h.same.trans hsame, hbus.e_eq.trans h.e, ?_⟩
  rw [pushAddr_succ, ← h.next, offOf_mkAddr, hbus.e_eq, h.e, hbus.sp_eq]

theorem push16_pushes (v : Word) (h : Pushed b s k u) (hclear : ∀ j < k + 2, ClearOf b (pushAddr s j)) :
    Pushes b s (k + 2) (push16 v u) :=
  (push8_pushes _ h (hclear k (by omega))).bind fun _ _ h1 => push8_pushes _ h1 (hclear (k + 1) (by omega))

theorem pushAt_pushes {w : Width} (v : Word) (hclear : ∀ j < w.bytes, ClearOf b (pushAddr s j)) :
    Pushes b s w.bytes (pushAt w v s) := by
  cases w with
  | w8 => exact push8_pushes _ (.zero b s) (hclear 0 (by decide))
  | w16 => exact push16_pushes v (.zero b s) hclear

theorem pushIndirect_pushes (o : Byte) (hclear : ∀ j < 2, ClearOf b (pushAddr s j)) : Pushes b s 2 (pushIndirect o s) :=
  ((readWord_readOnly _ s).ends fun _ h => h.sameAt).bind fun v _ h => push16_pushes v h.pushed_zero hclear

theorem call_sameAt (a16 : Word) (hclear : ∀ j < 2, ClearOf b (pushAddr s j)) :
    ((push16 s.returnAddress s).bind fun _ t => .ok () (t.jump a16)).All (SameAt b s) :=
  (push16_pushes _ (.zero b s) hclear).bind_sameAt fun _ _ h => h.same

theorem callIndexed_sameAt (a16 : Word) (hclear : ∀ j < 2, ClearOf b (pushAddr s j)) :
    (callIndexed a16 s).All (SameAt b s) :=
  (push16_pushes _ (.zero b s) hclear).bind_sameAt fun _ t h =>
    (absIndXTarget_readOnly a16 t).bind (fun _ hread => h.same.trans hread.sameAt) fun _ _ hread => h.same.trans hread.sameAt

theorem callLong_sameAt (a24 : Addr) (hclear : ∀ j < 3, ClearOf b (pushAddr s j)) : (callLong a24 s).All (SameAt b s) :=
  (push8_pushes _ (.zero b s) (hclear 0 (by decide))).bind_sameAt fun _ _ h =>
    (push16_pushes _ h hclear).bind_sameAt fun _ _ h => h.same

/-- The first push of an entry: K, in native mode only (R421). -/
theorem enter_bank_pushes (hclear : ∀ j < if s.e then 0 else 1, ClearOf b (pushAddr s j)) :
    Pushes b s (if s.e then 0 else 1) (if s.e then Res.ok () s else push8 s.k s) := by
  cases he : s.e with
  | true => exact .zero b s
  | false => exact push8_pushes _ (.zero b s) (hclear 0 (by simp [he]))

/-- The frame of an entry: K in native mode only, then PC, then P (R421). -/
theorem enter_sameAt (kind : IntKind) (hclear : ∀ j < if s.e then 3 else 4, ClearOf b (pushAddr s j)) :
    (enter kind s).All (SameAt b s) := by
  have hcount : (if s.e then 3 else 4) = (if s.e then 0 else 1) + 3 := by cases s.e <;> rfl
  rw [hcount] at hclear
  refine (enter_bank_pushes fun j hj => hclear j (by omega)).bind_sameAt fun _ _ h1 => ?_
  refine (push16_pushes _ h1 fun j hj => hclear j (by omega)).bind_sameAt fun _ _ h2 => ?_
  exact (push8_pushes _ h2 (hclear _ (by omega))).bind_sameAt fun _ _ h3 => h3.same

end Push

/-- Every instruction that pushes, in the order of `pushers`. -/
theorem pushers_sameAt {b : Addr} (a16 : Word) (a24 : Addr) (sig : Byte) (s t : State) :
    ∀ p ∈ pushers s a16 a24 sig, exec p.1 s = .next t → (∀ k < p.2, ClearOf b (pushAddr s k)) → SameAt b s t := by
  simp only [pushers, List.forall_mem_cons]
  exact ⟨fun h hclear => finish_sameAt (pushAt_pushes s.a hclear).sameAt h,
    fun h hclear => finish_sameAt (pushAt_pushes s.x hclear).sameAt h,
    fun h hclear => finish_sameAt (pushAt_pushes s.y hclear).sameAt h,
    fun h hclear => finish_sameAt (push8_pushes s.p.toByte (.zero b s) (hclear 0 Nat.one_pos)).sameAt h,
    fun h hclear => finish_sameAt (push8_pushes s.dbr (.zero b s) (hclear 0 Nat.one_pos)).sameAt h,
    fun h hclear => finish_sameAt (push8_pushes s.k (.zero b s) (hclear 0 Nat.one_pos)).sameAt h,
    fun h hclear => finish_sameAt (push16_pushes s.d (.zero b s) hclear).sameAt h,
    fun h hclear => finish_sameAt (push16_pushes a16 (.zero b s) hclear).sameAt h,
    fun h hclear => finish_sameAt (pushIndirect_pushes sig hclear).sameAt h,
    fun h hclear => finish_sameAt (push16_pushes (rel16Target a16 s) (.zero b s) hclear).sameAt h,
    fun h hclear => finish_sameAt (call_sameAt a16 hclear) h,
    fun h hclear => finish_sameAt (callIndexed_sameAt a16 hclear) h,
    fun h hclear => finish_sameAt (callLong_sameAt a24 hclear) h,
    fun h hclear => finish_sameAt (enter_sameAt .brk hclear) h,
    fun h hclear => finish_sameAt (enter_sameAt .cop hclear) h, List.forall_mem_nil _⟩

/-! ### Block moves -/

/-- What `k` bytes of a block move from `s` leave: the byte at `b`, the width of the index registers, and Y at the place of the
next byte. -/
structure Moved (b : Addr) (delta : Word) (s : State) (k : Nat) (t : State) : Prop where
  same : SameAt b s t
  wX : t.wX = s.wX
  next : t.getY = trunc s.wX (s.y + BitVec.ofNat 16 k * delta)

theorem Moved.zero (b : Addr) (delta : Word) (s : State) (dbk : Byte) : Moved b delta s 0 { s with dbr := dbk } :=
  ⟨rfl, rfl, by simp [State.getY, State.wX]⟩

theorem moveTarget_eq (delta : Word) (dbk : Byte) (s : State) (k : Nat) :
    moveTarget delta dbk s k = mkAddr dbk (trunc s.wX (s.y + BitVec.ofNat 16 k * delta)) := by
  unfold moveTarget State.wX
  rw [trunc_of_flag]

/-- The index registers step at their width: a truncation between two steps is lost. -/
theorem trunc_trunc_add (w : Width) (v d : Word) : trunc w (trunc w v + d) = trunc w (v + d) := by
  cases w with
  | w16 => rfl
  | w8 =>
    apply BitVec.eq_of_toNat_eq
    simp only [trunc, zext8_toNat, loByte_toNat, BitVec.toNat_add]
    omega

section Move

variable {b : Addr} {delta : Word} {dbk : Byte} {s : State}

theorem blockMoveByte_moved (sbk : Byte) {k : Nat} {u : State} (h : Moved b delta s k u)
    (hclear : ClearOf b (moveTarget delta dbk s k)) :
    (blockMoveByte delta dbk sbk u).Ends (Moved b delta s (k + 1)) (SameAt b s) := by
  rw [moveTarget_eq, ← h.next] at hclear
  refine ((memRead_readOnly _ u).ends fun t hread => h.same.trans hread.sameAt).bind fun v t hread => ?_
  have hsame : SameAt b s t := h.same.trans hread.sameAt
  rw [← hread.getY_eq] at hclear
  refine ((memWrite_clearOf hclear v t).ends fun w ⟨hw, _⟩ => hsame.trans hw).bind fun _ w ⟨hw, hbus⟩ => ?_
  have hwX : w.wX = s.wX := hbus.wX_eq.trans (hread.wX_eq.trans h.wX)
  have hY : w.getY = trunc s.wX (s.y + BitVec.ofNat 16 k * delta) := hbus.getY_eq.trans (hread.getY_eq.trans h.next)
  have hnext : s.y + BitVec.ofNat 16 (k + 1) * delta = s.y + BitVec.ofNat 16 k * delta + delta := by
    rw [BitVec.ofNat_add, BitVec.add_mul, BitVec.one_mul, BitVec.add_assoc]
  refine ⟨hsame.trans hw, hwX, ?_⟩
  change trunc w.wX (trunc w.wX (w.getY + delta)) = _
  rw [trunc_trunc, hwX, hY, trunc_trunc_add, hnext]

theorem blockMoveBytes_sameAt (sbk : Byte) : ∀ (n k : Nat) (u : State), Moved b delta s k u →
    (∀ j ≤ k + n, ClearOf b (moveTarget delta dbk s j)) → (blockMoveBytes delta dbk sbk n u).All (SameAt b s)
  | 0, k, _, h, hclear => (blockMoveByte_moved sbk h (hclear k (Nat.le_refl k))).all fun _ h => h.same
  | n + 1, k, _, h, hclear => (blockMoveByte_moved sbk h (hclear k (by omega))).bind_all fun _ t h' =>
      blockMoveBytes_sameAt sbk n (k + 1) t h' fun j hj => hclear j (by omega)

theorem blockMove_sameAt (sbk : Byte) (hclear : ∀ k ≤ s.a.toNat, ClearOf b (moveTarget delta dbk s k)) :
    (blockMove delta dbk sbk s).All (SameAt b s) :=
  blockMoveBytes_sameAt sbk s.a.toNat 0 _ (.zero b delta s dbk) fun j hj => hclear j (by omega)

end Move

/-- Settles O59: the pushes instruction by instruction, and the block moves byte by byte. -/
theorem pushesAndMovesReachTheirBytesOnly : Obligations.PushesAndMovesReachTheirBytesOnly := by
  intro a16 a24 dbk sbk s t
  refine ⟨fun p hp h hdma b hother => pushers_sameAt a16 a24 dbk s t p hp h fun k hk => ⟨hdma k hk, hother k hk⟩, ?_⟩
  simp only [List.forall_mem_cons]
  exact ⟨fun h hdma b hother => finish_sameAt (blockMove_sameAt sbk fun k hk => ⟨hdma k hk, hother k hk⟩) h,
    fun h hdma b hother => finish_sameAt (blockMove_sameAt sbk fun k hk => ⟨hdma k hk, hother k hk⟩) h,
    List.forall_mem_nil _⟩

end Sys2Proof.Machine
end

section
/-! PROOFS. The decoder and the encoder agree: what an entry of the opcode table reads, the table against the encoder opcode by
opcode, and the encoder against the table instruction by instruction (R120-R129). -/

namespace Sys2Proof

open Sys2Proof.Claims

/-! ### Operand bytes of an entry -/

/-- The operand bytes `bs` of an entry make the instruction `i` while P.M = `m` and P.X = `x` (R123-R125). -/
inductive Entry.Reads (m x : Bool) : Entry → List Byte → Instr → Prop where
  | none0 (i : Instr) : Reads m x (.none0 i) [] i
  | byte (f : Byte → Instr) (b : Byte) : Reads m x (.byte f) [b] (f b)
  | word (f : Word → Instr) (v : Word) : Reads m x (.word f) (encWord v) (f v)
  | long (f : Addr → Instr) (v : Addr) : Reads m x (.long f) (encAddr v) (f v)
  | immM (f : Imm → Instr) (v : Imm) (hv : v.width = widthOf m) : Reads m x (.immM f) v.enc (f v)
  | immX (f : Imm → Instr) (v : Imm) (hv : v.width = widthOf x) : Reads m x (.immX f) v.enc (f v)
  | blk (f : Byte → Byte → Instr) (b1 b2 : Byte) : Reads m x (.blk f) [b1, b2] (f b1 b2)

theorem encWord_mkWord (hi lo : Byte) : encWord (mkWord hi lo) = [lo, hi] := by simp [encWord]

theorem encAddr_mkAddr (bank hi lo : Byte) : encAddr (mkAddr bank (mkWord hi lo)) = [lo, hi, bank] := by simp [encAddr]

theorem decodeImm_enc (v : Imm) (rest : List Byte) : decodeImm v.width (v.enc ++ rest) = .ok (v, rest) := by
  cases v with
  | b v => rfl
  | w v => simp [Imm.width, Imm.enc, encWord, decodeImm]

/-- An immediate's entry reads the bytes of an immediate of the width (R124, R125). -/
theorem decodeImm_map_eq_ok {w : Width} {bytes rest : List Byte} {f : Imm → Instr} {i : Instr}
    (h : (decodeImm w bytes).map (fun r => (f r.1, r.2)) = .ok (i, rest)) :
    ∃ v, v.width = w ∧ f v = i ∧ v.enc ++ rest = bytes := by
  unfold decodeImm at h
  split at h
  case h_1 b _ => cases h; exact ⟨.b b, rfl, rfl, rfl⟩
  case h_2 b1 b2 _ => cases h; exact ⟨.w (mkWord b2 b1), rfl, rfl, by simp [Imm.enc, encWord_mkWord]⟩
  case h_3 => cases h

section Reads

variable {m x : Bool} {en : Entry} {i : Instr} {bs : List Byte}

/-- An entry reads as many operand bytes as it takes (R123, R124, R126). -/
theorem Entry.Reads.length_eq (h : en.Reads m x bs i) : bs.length = en.operandCount m x := by
  cases h with
  | immM f v hv => exact Laws.EncodingLength.imm_enc_length v m (decide_eq_true hv)
  | immX f v hv => exact Laws.EncodingLength.imm_enc_length v x (decide_eq_true hv)
  | _ => rfl

theorem Entry.Reads.assemble_append (h : en.Reads m x bs i) (rest : List Byte) :
    en.assemble m x (bs ++ rest) = .ok (i, rest) := by
  cases h with
  | none0 => rfl
  | byte => rfl
  | blk => rfl
  | word f v => simp [encWord, Entry.assemble]
  | long f v => simp [encAddr, Entry.assemble]
  | immM f v hv => simp [Entry.assemble, ← hv, decodeImm_enc, Except.map]
  | immX f v hv => simp [Entry.assemble, ← hv, decodeImm_enc, Except.map]

theorem Entry.reads_of_assemble {bytes rest : List Byte} (h : en.assemble m x bytes = .ok (i, rest)) :
    ∃ bs, en.Reads m x bs i ∧ bs ++ rest = bytes := by
  unfold Entry.assemble at h
  split at h
  case h_1 => cases h; exact ⟨[], .none0 _, rfl⟩
  case h_2 f b _ => cases h; exact ⟨_, .byte f b, rfl⟩
  case h_3 f b1 b2 _ => cases h; exact ⟨_, .word f (mkWord b2 b1), by simp [encWord_mkWord]⟩
  case h_4 f b1 b2 b3 _ => cases h; exact ⟨_, .long f (mkAddr b3 (mkWord b2 b1)), by simp [encAddr_mkAddr]⟩
  case h_5 f b1 b2 _ => cases h; exact ⟨_, .blk f b1 b2, rfl⟩
  case h_6 f =>
    obtain ⟨v, hw, rfl, hb⟩ := decodeImm_map_eq_ok h
    exact ⟨_, .immM f v hw, hb⟩
  case h_7 f =>
    obtain ⟨v, hw, rfl, hb⟩ := decodeImm_map_eq_ok h
    exact ⟨_, .immX f v hw, hb⟩
  case h_8 => cases h

end Reads

/-! ### The encoder against the table, instruction by instruction -/

/-- The encoding of a well-formed instruction is the opcode of an entry and the operand bytes from which that entry makes it. -/
theorem encode_reads {m x : Bool} {i : Instr} (h : i.wellFormed m x = true) :
    ∃ op en bs, encode i = op :: bs ∧ opcodeEntry op = some en ∧ en.Reads m x bs i := by
  cases i
  case ldaImmM v | adcImmM v | sbcImmM v | cmpImmM v | andImmM v | oraImmM v | eorImmM v | bitImmM v =>
    exact ⟨_, _, _, rfl, rfl, .immM _ v (of_decide_eq_true h)⟩
  case ldxImmX v | ldyImmX v | cpxImmX v | cpyImmX v =>
    exact ⟨_, _, _, rfl, rfl, .immX _ v (of_decide_eq_true h)⟩
  all_goals exact ⟨_, _, _, rfl, rfl, by constructor⟩

/-! ### The table against the encoder, opcode by opcode -/

/-- An entry makes only instructions that the encoder gives the opcode `op` and their operand bytes, and that are well-formed
where an immediate has its width. -/
inductive Entry.EncodesAs (op : Byte) : Entry → Prop where
  | none0 {i : Instr} (henc : encode i = [op]) (hwf : ∀ m x, i.wellFormed m x = true) : EncodesAs op (.none0 i)
  | byte {f : Byte → Instr} (henc : ∀ b, encode (f b) = [op, b]) (hwf : ∀ m x b, (f b).wellFormed m x = true) :
      EncodesAs op (.byte f)
  | word {f : Word → Instr} (henc : ∀ v, encode (f v) = op :: encWord v) (hwf : ∀ m x v, (f v).wellFormed m x = true) :
      EncodesAs op (.word f)
  | long {f : Addr → Instr} (henc : ∀ v, encode (f v) = op :: encAddr v) (hwf : ∀ m x v, (f v).wellFormed m x = true) :
      EncodesAs op (.long f)
  | immM {f : Imm → Instr} (henc : ∀ v, encode (f v) = op :: v.enc)
      (hwf : ∀ m x v, (f v).wellFormed m x = decide (v.width = widthOf m)) : EncodesAs op (.immM f)
  | immX {f : Imm → Instr} (henc : ∀ v, encode (f v) = op :: v.enc)
      (hwf : ∀ m x v, (f v).wellFormed m x = decide (v.width = widthOf x)) : EncodesAs op (.immX f)
  | blk {f : Byte → Byte → Instr} (henc : ∀ b1 b2, encode (f b1 b2) = [op, b1, b2])
      (hwf : ∀ m x b1 b2, (f b1 b2).wellFormed m x = true) : EncodesAs op (.blk f)

theorem Entry.EncodesAs.encode_eq {op : Byte} {en : Entry} (h : en.EncodesAs op) {m x : Bool} {bs : List Byte} {i : Instr}
    (hr : en.Reads m x bs i) : encode i = op :: bs ∧ i.wellFormed m x = true := by
  cases h with
  | none0 henc hwf => cases hr; exact ⟨henc, hwf m x⟩
  | byte henc hwf => cases hr; exact ⟨henc _, hwf m x _⟩
  | word henc hwf => cases hr; exact ⟨henc _, hwf m x _⟩
  | long henc hwf => cases hr; exact ⟨henc _, hwf m x _⟩
  | blk henc hwf => cases hr; exact ⟨henc _ _, hwf m x _ _⟩
  | immM henc hwf => cases hr with | immM _ v hv => exact ⟨henc v, (hwf m x v).trans (decide_eq_true hv)⟩
  | immX henc hwf => cases hr with | immX _ v hv => exact ⟨henc v, (hwf m x v).trans (decide_eq_true hv)⟩

/-- The opcode map, row by row (the high nibble) and column by column (the low nibble): the encoder gives each entry's
instructions the opcode of its place. -/
theorem opcodeRows_encodesAs : ∀ r ∈ opcodeRows.zipIdx, r.1.length = 16 ∧
    ∀ e ∈ r.1.zipIdx, e.1.EncodesAs (BitVec.ofNat 8 (16 * r.2 + e.2)) := by
  simp only [opcodeRows, opcodeRow0, opcodeRow1, opcodeRow2, opcodeRow3, opcodeRow4, opcodeRow5, opcodeRow6, opcodeRow7,
    opcodeRow8, opcodeRow9, opcodeRowA, opcodeRowB, opcodeRowC, opcodeRowD, opcodeRowE, opcodeRowF, List.zipIdx_cons,
    List.zipIdx_nil, List.forall_mem_cons, List.not_mem_nil, false_imp_iff, implies_true, and_true]
  -- The kind of an entry chooses its constructor of `EncodesAs`; its equations hold by evaluating the encoder.
  repeat' constructor
  all_goals (intros; rfl)

/-- All 256 opcodes have an entry (R129), and the encoder agrees with it. -/
theorem opcodeEntry_encodesAs (op : Byte) : ∃ en, opcodeEntry op = some en ∧ en.EncodesAs op := by
  have hop := op.isLt
  have hrow : op.toNat / 16 < opcodeRows.length := by
    change op.toNat / 16 < 16
    omega
  obtain ⟨hlen, henc⟩ := opcodeRows_encodesAs (opcodeRows[op.toNat / 16], op.toNat / 16)
    (List.mk_mem_zipIdx_iff_getElem?.2 (List.getElem?_eq_getElem hrow))
  have hcol : op.toNat % 16 < opcodeRows[op.toNat / 16].length := by rw [hlen]; omega
  refine ⟨opcodeRows[op.toNat / 16][op.toNat % 16], by simp [opcodeEntry, hrow, hcol], ?_⟩
  have h := henc (_, op.toNat % 16) (List.mk_mem_zipIdx_iff_getElem?.2 (List.getElem?_eq_getElem hcol))
  rwa [Nat.div_add_mod, BitVec.ofNat_toNat, BitVec.setWidth_eq] at h

/-! ### The decoder -/

section Decode

variable {m x : Bool} {op : Byte} {en : Entry} {i : Instr} {bs bytes rest : List Byte}

/-- What an opcode's entry makes has that opcode and those operand bytes as its encoding, and is well-formed. -/
theorem encode_of_reads (hen : opcodeEntry op = some en) (hr : en.Reads m x bs i) :
    encode i = op :: bs ∧ i.wellFormed m x = true := by
  obtain ⟨en', hen', henc⟩ := opcodeEntry_encodesAs op
  obtain rfl : en' = en := Option.some.inj (hen'.symm.trans hen)
  exact henc.encode_eq hr

theorem decode_cons (hen : opcodeEntry op = some en) : decode m x (op :: rest) = en.assemble m x rest := by
  simp [decode, hen]

/-- A decoding reads an opcode, then the operand bytes its entry takes (R122). -/
theorem reads_of_decode (h : decode m x bytes = .ok (i, rest)) :
    ∃ op en bs, opcodeEntry op = some en ∧ en.Reads m x bs i ∧ op :: (bs ++ rest) = bytes := by
  cases bytes with
  | nil => cases h
  | cons op tail =>
    obtain ⟨en, hen, -⟩ := opcodeEntry_encodesAs op
    rw [decode_cons hen] at h
    obtain ⟨bs, hr, rfl⟩ := Entry.reads_of_assemble h
    exact ⟨op, en, bs, hen, hr, rfl⟩

end Decode

/-- No entry takes more than three operand bytes (R123). -/
theorem Entry.assemble_three (en : Entry) (m x : Bool) (b1 b2 b3 : Byte) :
    ∃ i rest, en.assemble m x [b1, b2, b3] = .ok (i, rest) := by
  cases en with
  | immM f => cases m <;> exact ⟨_, _, rfl⟩
  | immX f => cases x <;> exact ⟨_, _, rfl⟩
  | _ => exact ⟨_, _, rfl⟩

/-- Settles O1: the opcode selects the entry, and the entry reads back the operand bytes. -/
theorem decodeInvertsEncode : Obligations.DecodeInvertsEncode := by
  intro m x i rest hwf
  obtain ⟨op, en, bs, henc, hen, hr⟩ := encode_reads hwf
  rw [henc, List.cons_append, decode_cons hen, hr.assemble_append]

/-- Settles O2: an opcode's entry makes only instructions with that opcode. -/
theorem encodeInvertsDecode : Obligations.EncodeInvertsDecode := by
  intro m x bytes i rest h
  obtain ⟨op, en, bs, hen, hr, rfl⟩ := reads_of_decode h
  obtain ⟨henc, hwf⟩ := encode_of_reads hen hr
  exact ⟨by rw [henc, List.cons_append], hwf⟩

/-- Settles O3: every opcode has an entry, and three bytes are operand bytes enough for any. -/
theorem everyOpcodeDecodes : Obligations.EveryOpcodeDecodes := by
  intro m x op b1 b2 b3
  obtain ⟨en, hen, -⟩ := opcodeEntry_encodesAs op
  obtain ⟨i, rest, h⟩ := en.assemble_three m x b1 b2 b3
  obtain ⟨bs, hr, -⟩ := Entry.reads_of_assemble h
  refine ⟨i, rest, (decode_cons hen).trans h, ?_⟩
  rw [encodedAs, (encode_of_reads hen hr).1, List.head?_cons]

/-- Settles O4: each word decodes by the table. -/
theorem writtenOutWordsDecode : Obligations.WrittenOutWordsDecode :=
  ⟨rfl, rfl, rfl, rfl, rfl, rfl, rfl, rfl, rfl, rfl, rfl, rfl⟩

/-! ### Length -/

theorem lengthOf_immM_eq (m x : Bool) : lengthOf m x .immM = (widthOf m).bytes + 1 := by cases m <;> rfl

theorem lengthOf_immX_eq (m x : Bool) : lengthOf m x .immX = (widthOf x).bytes + 1 := by cases x <;> rfl

theorem encode_length {m x : Bool} {i : Instr} (h : i.wellFormed m x = true) : (encode i).length = lengthOf m x i.mode := by
  cases i
  case ldaImmM v | adcImmM v | sbcImmM v | cmpImmM v | andImmM v | oraImmM v | eorImmM v | bitImmM v =>
    exact (congrArg (· + 1) (Laws.EncodingLength.imm_enc_length v m h)).trans (lengthOf_immM_eq m x).symm
  case ldxImmX v | ldyImmX v | cpxImmX v | cpyImmX v =>
    exact (congrArg (· + 1) (Laws.EncodingLength.imm_enc_length v x h)).trans (lengthOf_immX_eq m x).symm
  all_goals rfl

theorem lengthOf_bounds (m x : Bool) (mode : Mode) : 1 ≤ lengthOf m x mode ∧ lengthOf m x mode ≤ 4 := by
  cases mode with
  | immM => cases m <;> simp [lengthOf]
  | immX => cases x <;> simp [lengthOf]
  | _ => simp [lengthOf]

/-- Settles O5: the length by the mode, then its bounds. -/
theorem lengthFollowsModeAndFlags : Obligations.LengthFollowsModeAndFlags := by
  intro m x i hwf
  rw [encode_length hwf]
  exact ⟨rfl, lengthOf_bounds m x i.mode⟩

end Sys2Proof
end

section
/-! PROOFS. The bytes of an operand by wrap class, and the fetch of an instruction from plain storage (R121, R122, R152, R401). -/

namespace Sys2Proof.Machine

open Sys2Proof.Claims

/-! ### Operand bytes (R152) -/

theorem byteAddr_lin_toNat (base : Addr) (k : Nat) :
    (EA.byteAddr ⟨base, .lin⟩ k).toNat = (base.toNat + k) % 0x1000000 := by
  simp [EA.byteAddr, BitVec.toNat_add]

theorem byteAddr_dpPage_toNat (base : Addr) (k : Nat) :
    (EA.byteAddr ⟨base, .dpPage⟩ k).toNat = (base.toNat / 0x100 % 0x100) * 0x100 + (base.toNat + k) % 0x100 := by
  simp only [EA.byteAddr, mkAddr_toNat, mkWord_toNat, hiByte_toNat, offOf_toNat, BitVec.toNat_add, loByte_toNat,
    BitVec.ofNat_eq_ofNat, BitVec.toNat_ofNat]
  omega

section ReadFrom

variable {ea : EA} {k : Nat} {s s1 : State} {b : Byte} (h : memRead (ea.byteAddr k) s = .ok b s1)
include h

/-- A read of several bytes: the first byte is the lowest (R85). -/
theorem readFrom_succ_ok {n : Nat} {rest : Addr} {s2 : State} (hrest : readFrom ea (k + 1) n s1 = .ok rest s2) :
    readFrom ea k (n + 1) s = .ok ((rest <<< 8) ||| b.setWidth 24) s2 := by
  simp [readFrom, h, hrest]

theorem readFrom_one_ok : readFrom ea k 1 s = .ok (b.setWidth 24) s1 := by simp [readFrom, h]

end ReadFrom

/-- A byte put below the bytes of an address moves them up by one place. -/
theorem shiftLeft_or_byte (a : Addr) (b : Byte) :
    (a <<< 8) ||| b.setWidth 24 = mkAddr (hiByte (offOf a)) (mkWord (loByte (offOf a)) b) := by
  apply BitVec.eq_of_toNat_eq
  have hb := b.isLt
  have hshift : (a <<< 8).toNat = (a.toNat % 65536) <<< 8 := by
    rw [BitVec.toNat_shiftLeft, Nat.shiftLeft_eq, Nat.shiftLeft_eq]
    omega
  have hbyte : (b.setWidth 24).toNat = b.toNat := by
    rw [BitVec.toNat_setWidth]
    omega
  rw [BitVec.toNat_or, hshift, hbyte, ← Nat.shiftLeft_add_eq_or_of_lt hb, Nat.shiftLeft_eq, mkAddr_toNat, mkWord_toNat,
    hiByte_toNat, loByte_toNat, offOf_toNat]
  omega

theorem setWidth_byte_eq_mkAddr (b : Byte) : b.setWidth 24 = mkAddr 0 (mkWord 0 b) := by
  apply BitVec.eq_of_toNat_eq
  simp only [mkAddr_toNat, mkWord_toNat, BitVec.toNat_setWidth, BitVec.ofNat_eq_ofNat, BitVec.toNat_ofNat]
  omega

section ReadN

variable {ea : EA} {s s1 s2 s3 : State} {b0 b1 b2 : Byte} (h0 : memRead (ea.byteAddr 0) s = .ok b0 s1)
  (h1 : memRead (ea.byteAddr 1) s1 = .ok b1 s2) (h2 : memRead (ea.byteAddr 2) s2 = .ok b2 s3)

include h0 h1 in
theorem readN_two_ok : readN ea 2 s = .ok (mkAddr 0 (mkWord b1 b0)) s2 := by
  rw [readN, readFrom_succ_ok h0 (readFrom_one_ok h1), setWidth_byte_eq_mkAddr b1, shiftLeft_or_byte]
  simp

include h0 h1 h2 in
theorem readN_three_ok : readN ea 3 s = .ok (mkAddr b2 (mkWord b1 b0)) s3 := by
  rw [readN, readFrom_succ_ok h0 (readFrom_succ_ok h1 (readFrom_one_ok h2)), setWidth_byte_eq_mkAddr b2, shiftLeft_or_byte,
    shiftLeft_or_byte]
  simp

end ReadN

theorem writeFrom_succ_ok {ea : EA} {k n : Nat} {v : Word} {s s1 : State}
    (h : memWrite (ea.byteAddr k) (loByte v) s = .ok () s1) :
    writeFrom ea k (n + 1) v s = writeFrom ea (k + 1) n (v >>> 8) s1 := by
  simp [writeFrom, h]

/-! ### The fetch (R121, R122) -/

theorem fetchByte_of_memRead {s s1 : State} {b : Byte} (h : memRead (mkAddr s.k s.pc) s = .ok b s1) :
    fetchByte s = .ok b { s1 with pc := s.pc + 1 } ∧ s1.k = s.k := by
  have hro := (memRead_readOnly _ s).of_ok h
  simp [fetchByte, h, hro.pc_eq, hro.k_eq]

/-- Settles O14: the fetch, the places of the bytes, and the bytes of a value one after another. -/
theorem instructionAndOperandBytes : Obligations.InstructionAndOperandBytes :=
  ⟨fun _ _ _ => fetchByte_of_memRead,
    fun base _ k _ => ⟨byteAddr_lin_toNat base k, rfl, byteAddr_dpPage_toNat base k⟩,
    fun _ _ _ _ h0 => ⟨readFrom_one_ok h0, fun _ _ h1 => ⟨readN_two_ok h0 h1, fun _ _ h2 => readN_three_ok h0 h1 h2⟩⟩,
    fun _ _ _ _ h0 => ⟨writeFrom_succ_ok h0, fun _ h1 => (writeFrom_succ_ok h0).trans (writeFrom_succ_ok h1)⟩⟩

/-- Where plain storage answers a read, it answers with the byte stored, and the read sets the latch alone (R80). -/
theorem memRead_of_peek {s : State} {a : Addr} {b : Byte} (h : s.peek a = some b) :
    memRead a s = .ok b { s with mdr := b } := by
  unfold State.peek State.stored at h
  cases hd : decodeAddr a with
  | wram i =>
    obtain rfl : s.wram.read i = b := by simpa [hd] using h
    exact memRead_wram hd
  | reg o =>
    obtain rfl : s.cells.read o = b := by simpa [hd] using h
    exact memRead_reg hd
  | openBus => simp [hd] at h
  | undecoded => simp [hd] at h
  | cart c =>
    obtain rfl := decodeAddr_cart hd
    refine memRead_cart_byte (c := s.cart) hd ?_
    cases hc : sparseRead CartCell.undriven s.cart.cells (cartKey c) with
    | rom v => simpa [cartRead, hd, hc] using h
    | ram v => simpa [cartRead, hd, hc] using h
    | _ => simp [hd, hc] at h

/-- The bytes stand at K:PC, K:PC+1, …, in plain storage, wrapping in the bank (R121). -/
def State.StreamHolds (s : State) (bytes : List Byte) : Prop :=
  ∀ j b, bytes[j]? = some b → s.peek (mkAddr s.k (s.pc + BitVec.ofNat 16 j)) = some b

/-- `s` after the bytes are fetched: PC past them, the latch at the last one. -/
def State.fetched (s : State) (bytes : List Byte) : State :=
  { s with pc := s.pc + BitVec.ofNat 16 bytes.length, mdr := bytes.getLastD s.mdr }

@[simp] theorem State.fetched_p (s : State) (bytes : List Byte) : (s.fetched bytes).p = s.p := rfl

theorem State.fetched_cons (s : State) (b : Byte) (bytes : List Byte) :
    s.fetched (b :: bytes) = (s.fetched [b]).fetched bytes := by
  unfold State.fetched
  rw [List.getLastD_cons, List.length_cons, Nat.add_comm, BitVec.ofNat_add, ← BitVec.add_assoc]
  rfl

theorem State.StreamHolds.tail {s : State} {b : Byte} {bytes : List Byte} (h : s.StreamHolds (b :: bytes)) :
    (s.fetched [b]).StreamHolds bytes := by
  intro j c hj
  have hpeek := h (j + 1) c (by simpa using hj)
  rw [Nat.add_comm, BitVec.ofNat_add, ← BitVec.add_assoc] at hpeek
  exact hpeek

theorem fetchByte_of_streamHolds {s : State} {b : Byte} {bytes : List Byte} (h : s.StreamHolds (b :: bytes)) :
    fetchByte s = .ok b (s.fetched [b]) := by
  have hb : s.peek (mkAddr s.k s.pc) = some b := by simpa using h 0 b rfl
  exact (fetchByte_of_memRead (memRead_of_peek hb)).1

theorem fetchBytes_of_streamHolds : ∀ (bytes : List Byte) (s : State), s.StreamHolds bytes →
    fetchBytes bytes.length s = .ok bytes (s.fetched bytes)
  | [], s, _ => by simp [fetchBytes, State.fetched]
  | b :: bytes, s, h => by
    rw [s.fetched_cons]
    simp [fetchBytes, fetchByte_of_streamHolds h, fetchBytes_of_streamHolds bytes _ h.tail]

/-- The fetch reads the instruction whose bytes stand at K:PC (R122, R401). -/
theorem fetchInstr_of_streamHolds {s : State} {i : Instr} (hwf : i.wellFormed s.p.m s.p.x = true)
    (h : s.StreamHolds (encode i)) : fetchInstr s = .ok i (s.noteOpAddr.fetched (encode i)) := by
  have hdec := decodeInvertsEncode s.p.m s.p.x i [] hwf
  obtain ⟨op, en, bs, henc, hen, hr⟩ := encode_reads hwf
  rw [henc] at h hdec ⊢
  have h' : s.noteOpAddr.StreamHolds (op :: bs) := h
  have hbs := fetchBytes_of_streamHolds bs _ h'.tail
  rw [hr.length_eq] at hbs
  rw [List.append_nil] at hdec
  rw [fetchInstr, fetchByte_of_streamHolds h', s.noteOpAddr.fetched_cons op bs]
  simp [hen, hbs, hdec]

theorem step_of_executes {s : State} (h : executes s) : step s = executeOne s := by
  obtain ⟨hfault, hstop, hwait, hp⟩ := h
  have hact : nextAction s = .execute := by
    rcases hp with hp | ⟨hp, hi⟩
    · simp [nextAction, hstop, hwait, hp]
    · simp [nextAction, hstop, hwait, hp, dispatchable, hi, Config.irqRespectsI]
  simp [step, hfault, hact]

/-- Settles O49: the fetch reads the instruction, and leaves PC past it and the latch at its last byte. -/
theorem stepRunsTheDecodedInstruction : Obligations.StepRunsTheDecodedInstruction := by
  intro i s hexec hwf hbytes
  rw [step_of_executes hexec, executeOne, fetchInstr_of_streamHolds hwf hbytes]
  obtain ⟨op, _, bs, henc, -⟩ := encode_reads hwf
  rw [henc]
  rfl

end Sys2Proof.Machine
end

section
/-! PROOFS. Effective addresses: the direct-page, absolute, long, stack-relative and indirect modes (R155-R171). -/

namespace Sys2Proof.Machine

open Sys2Proof.Claims

/-! ### The direct page (R155) -/

section DirectPage

variable {s : State} (o : Word)

/-- The test of `dpAddr`, as R155 says it. -/
theorem dpAddr_cond : (s.e && loByte s.d == 0) = true ↔ s.e = true ∧ loByte s.d = 0 := by
  rw [Bool.and_eq_true, beq_iff_eq]

theorem dpAddr_page (h : s.e = true ∧ loByte s.d = 0) :
    dpAddr o s = ⟨mkAddr 0 (mkWord (hiByte s.d) (loByte o)), .dpPage⟩ :=
  if_pos (dpAddr_cond.2 h)

theorem dpAddr_bank (h : s.e = false ∨ loByte s.d ≠ 0) : dpAddr o s = ⟨mkAddr 0 (s.d + o), .bank 0⟩ := by
  have hnot : ¬(s.e = true ∧ loByte s.d = 0) := by rwa [not_and_or, Bool.not_eq_true]
  exact if_neg (mt dpAddr_cond.1 hnot)

end DirectPage

/-! ### The modes, in the words of the rules -/

section Modes

variable (o : Byte) (a16 : Word) (a24 : Addr) (s : State)

theorem getAddress_dpX : getAddress (.dpX o) s = .ok (dpAddr (o.setWidth 16 + viewX s) s) s := by
  rw [← s.getX_eq_viewX]
  rfl

theorem getAddress_dpY : getAddress (.dpY o) s = .ok (dpAddr (o.setWidth 16 + viewY s) s) s := by
  rw [← s.getY_eq_viewY]
  rfl

theorem getAddress_absX : getAddress (.absX a16) s = .ok (EA.plus ⟨mkAddr s.dbr a16, .lin⟩ (viewX s)) s := by
  rw [← s.getX_eq_viewX]
  rfl

theorem getAddress_absY : getAddress (.absY a16) s = .ok (EA.plus ⟨mkAddr s.dbr a16, .lin⟩ (viewY s)) s := by
  rw [← s.getY_eq_viewY]
  rfl

theorem getAddress_longX : getAddress (.longX a24) s = .ok (EA.plus ⟨a24, .lin⟩ (viewX s)) s := by
  rw [← s.getX_eq_viewX]
  rfl

end Modes

/-- Settles O15: the two cases of `DP`, then the modes with the index at its width. -/
theorem directPageAddresses : Obligations.DirectPageAddresses :=
  ⟨fun o _ => ⟨dpAddr_page o, dpAddr_bank o⟩, fun o s => ⟨rfl, getAddress_dpX o s, getAddress_dpY o s⟩⟩

/-! ### An index that carries into the bank (R161, R184) -/

theorem EA.plus_base_toNat (ea : EA) (index : Word) : (ea.plus index).base.toNat = (ea.base.toNat + index.toNat) % 0x1000000 := by
  simp [EA.plus, BitVec.toNat_add]

theorem absIndexed_base_toNat (bank : Byte) (a16 index : Word) :
    (EA.plus ⟨mkAddr bank a16, .lin⟩ index).base.toNat = (bank.toNat * 0x10000 + a16.toNat + index.toNat) % 0x1000000 := by
  rw [EA.plus_base_toNat, mkAddr_toNat]

/-- Settles O16: an index is added to the whole address, so it carries into the bank. -/
theorem absoluteAddresses : Obligations.AbsoluteAddresses := fun a16 a24 _ s =>
  ⟨rfl, rfl, rfl, ⟨_, getAddress_absX a16 s, rfl, absIndexed_base_toNat s.dbr a16 (viewX s)⟩,
    ⟨_, getAddress_absY a16 s, rfl, absIndexed_base_toNat s.dbr a16 (viewY s)⟩,
    ⟨_, getAddress_longX a24 s, rfl, EA.plus_base_toNat ⟨a24, .lin⟩ (viewX s)⟩⟩

/-! ### Pointers (R165-R171) -/

section Pointers

variable {at_ : EA} {s s1 : State} {p : Addr}

/-- Reading a pointer leaves DBR, so the data bank is the one before the read. -/
theorem pointerAddr_of_readN (h : readN at_ 2 s = .ok p s1) : pointerAddr at_ s = .ok ⟨mkAddr s.dbr (offOf p), .lin⟩ s1 := by
  have hdbr : s1.dbr = s.dbr := ((readN_readOnly at_ 2 s).of_ok h).dbr_eq
  simp [pointerAddr, readWord, h, absAddr, hdbr]

theorem longPointerAddr_of_readN (h : readN at_ 3 s = .ok p s1) : longPointerAddr at_ s = .ok ⟨p, .lin⟩ s1 := by
  simp [longPointerAddr, h]

/-- Y is added at the width and value it had before the pointer was read: a read leaves both. -/
theorem bind_plus_getY {r : Res EA} {ea : EA} (hread : r.All (ReadOnly s)) (h : r = .ok ea s1) :
    (r.bind fun ea t => .ok (ea.plus t.getY) t) = .ok (ea.plus (viewY s)) s1 := by
  rw [h, Res.ok_bind, (hread.of_ok h).getY_eq, s.getY_eq_viewY]

theorem pointerAddr_plus_getY (h : readN at_ 2 s = .ok p s1) :
    ((pointerAddr at_ s).bind fun ea t => .ok (ea.plus t.getY) t) =
      .ok ⟨mkAddr s.dbr (offOf p) + (viewY s).setWidth 24, .lin⟩ s1 :=
  bind_plus_getY (pointerAddr_readOnly at_ s) (pointerAddr_of_readN h)

theorem longPointerAddr_plus_getY (h : readN at_ 3 s = .ok p s1) :
    ((longPointerAddr at_ s).bind fun ea t => .ok (ea.plus t.getY) t) = .ok ⟨p + (viewY s).setWidth 24, .lin⟩ s1 :=
  bind_plus_getY (longPointerAddr_readOnly at_ s) (longPointerAddr_of_readN h)

end Pointers

/-- Settles O17: a pointer read leaves DBR and Y, so the address is made from those before it. -/
theorem indirectAddresses : Obligations.IndirectAddresses := by
  intro o s s1 p
  refine ⟨fun h => ⟨pointerAddr_of_readN h, pointerAddr_plus_getY h⟩, fun h => ?_,
    fun h => ⟨longPointerAddr_of_readN h, longPointerAddr_plus_getY h⟩, fun h => pointerAddr_plus_getY h⟩
  rw [← s.getX_eq_viewX] at h
  exact pointerAddr_of_readN h

end Sys2Proof.Machine
end

section
/-! PROOFS. The reach of a store and of a read-modify-write: every byte but those of the operand is as before (R81, R82, R152,
R154, R276). -/

namespace Sys2Proof.Machine

open Sys2Proof.Claims

/-! ### The operation behind each instruction form -/

/-- Each of the forms runs an operation on its operand. -/
def FormsRun {α : Type} (forms : List (Form α)) (op : α → State → Res Unit) : Prop :=
  ∀ f ∈ forms, ∀ s, exec f.instr s = finish (op f.operand s)

section Forms

variable (o : Byte) (a16 : Word) (a24 : Addr)

theorem staMemForms_run : FormsRun (staMemForms o a16 a24) storeA := fun f hf s => by
  fin_cases hf <;> rfl

theorem stxMemForms_run : FormsRun (stxMemForms o a16) storeX := fun f hf s => by
  fin_cases hf <;> rfl

theorem styMemForms_run : FormsRun (styMemForms o a16) storeY := fun f hf s => by
  fin_cases hf <;> rfl

theorem stzMemForms_run : FormsRun (stzMemForms o a16) storeZero := fun f hf s => by
  fin_cases hf <;> rfl

theorem incMemForms_run : FormsRun (incMemForms o a16) fun mode => increment (.mem mode) := fun f hf s => by
  fin_cases hf <;> rfl

theorem decMemForms_run : FormsRun (decMemForms o a16) fun mode => decrement (.mem mode) := fun f hf s => by
  fin_cases hf <;> rfl

theorem aslMemForms_run : FormsRun (aslMemForms o a16) fun mode => shiftLeftBy (fun _ => false) (.mem mode) := fun f hf s => by
  fin_cases hf <;> rfl

theorem lsrMemForms_run : FormsRun (lsrMemForms o a16) fun mode => shiftRightBy (fun _ => false) (.mem mode) := fun f hf s => by
  fin_cases hf <;> rfl

theorem rolMemForms_run : FormsRun (rolMemForms o a16) fun mode => shiftLeftBy (fun t => t.p.c) (.mem mode) := fun f hf s => by
  fin_cases hf <;> rfl

theorem rorMemForms_run : FormsRun (rorMemForms o a16) fun mode => shiftRightBy (fun t => t.p.c) (.mem mode) := fun f hf s => by
  fin_cases hf <;> rfl

theorem tsbMemForms_run : FormsRun (tsbMemForms o a16) (testAndModify fun m a => m ||| a) := fun f hf s => by
  fin_cases hf <;> rfl

theorem trbMemForms_run : FormsRun (trbMemForms o a16) (testAndModify fun m a => m &&& ~~~a) := fun f hf s => by
  fin_cases hf <;> rfl

end Forms

/-! ### The reach of an operation -/

/-- Where the mode computes an address, no byte of the operand there is the byte at `b` or starts a DMA. -/
def OperandClearOf (b : Addr) (mode : MemMode) (w : Width) (s : State) : Prop :=
  ∀ ea s1, getAddress mode s = .ok ea s1 → ∀ k < w.bytes, ClearOf b (ea.byteAddr k)

/-- An operation on a memory operand of width `w` alters no stored byte but the operand's, also where it raises. -/
def ReachesOperandOnly (w : State → Width) (op : MemMode → State → Res Unit) : Prop :=
  ∀ ⦃b : Addr⦄ ⦃mode : MemMode⦄ ⦃s : State⦄, OperandClearOf b mode (w s) s → (op mode s).All (SameAt b s)

section Reach

variable {b : Addr} {mode : MemMode} {w : Width} {s : State}

theorem writeN_sameAt {ea : EA} {n : Nat} (hclear : ∀ k < n, ClearOf b (ea.byteAddr k)) (v : Word) (s : State) :
    (writeN ea n v s).All (SameAt b s) :=
  writeN_all_stored n v s (fun k hk => (hclear k hk).1) fun k hk => (hclear k hk).2

/-- A mode's pointer read keeps every byte; what follows it knows that the operand is clear of `b`. -/
theorem getAddress_bind_sameAt {f : EA → State → Res Unit} (hclear : OperandClearOf b mode w s)
    (hf : ∀ ea u, SameAt b s u → (∀ k < w.bytes, ClearOf b (ea.byteAddr k)) → (f ea u).All (SameAt b s)) :
    ((getAddress mode s).bind f).All (SameAt b s) := by
  have hread := getAddress_readOnly mode s
  cases h : getAddress mode s with
  | ok ea u => exact hf ea u (hread.of_ok h).sameAt (hclear ea u h)
  | raise e u =>
    rw [h] at hread
    exact hread.sameAt

theorem storeTo_sameAt (v : State → Word) (hclear : OperandClearOf b mode w s) : (storeTo mode w v s).All (SameAt b s) :=
  getAddress_bind_sameAt hclear fun _ u hu hea => (writeN_sameAt hea (v u) u).mono fun _ hw => hu.trans hw

/-- The flags set before and after the write reach no byte. -/
theorem readModifyWrite_sameAt {pre : Word → State → State} (new : Word → State → Word) {post : Word → State → State}
    (hpre : ∀ v t, SameAt b t (pre v t)) (hpost : ∀ v t, SameAt b t (post v t)) (hclear : OperandClearOf b mode w s) :
    (readModifyWrite (.mem mode) w pre new post s).All (SameAt b s) :=
  getAddress_bind_sameAt hclear fun ea s1 h1 hea =>
    (readAt_readOnly ea w s1).bind (fun _ hr => h1.trans hr.sameAt) fun v s2 hr =>
      have h2 : SameAt b s (pre v s2) := (h1.trans hr.sameAt).trans (hpre v s2)
      (writeN_sameAt hea (new v s2) (pre v s2)).bind (fun _ hw => h2.trans hw) fun _ s3 hw =>
        (h2.trans hw).trans (hpost (new v s2) s3)

end Reach

theorem storeA_reach : ReachesOperandOnly State.wM storeA := fun _ _ _ => storeTo_sameAt State.getA

theorem storeX_reach : ReachesOperandOnly State.wX storeX := fun _ _ _ => storeTo_sameAt State.getX

theorem storeY_reach : ReachesOperandOnly State.wX storeY := fun _ _ _ => storeTo_sameAt State.getY

theorem storeZero_reach : ReachesOperandOnly State.wM storeZero := fun _ _ _ => storeTo_sameAt fun _ => 0

theorem modifyNZ_reach (new : Word → Word) : ReachesOperandOnly State.wM fun mode => modifyNZ (.mem mode) new :=
  fun _ _ _ => readModifyWrite_sameAt _ (fun _ _ => rfl) fun _ _ => rfl

theorem increment_reach : ReachesOperandOnly State.wM fun mode => increment (.mem mode) := modifyNZ_reach fun v => v + 1

theorem decrement_reach : ReachesOperandOnly State.wM fun mode => decrement (.mem mode) := modifyNZ_reach fun v => v - 1

theorem testAndModify_reach (f : Word → Word → Word) : ReachesOperandOnly State.wM (testAndModify f) :=
  fun _ _ _ => readModifyWrite_sameAt _ (fun _ _ => rfl) fun _ _ => rfl

theorem shiftLeftBy_reach (cin : State → Bool) : ReachesOperandOnly State.wM fun mode => shiftLeftBy cin (.mem mode) :=
  fun _ _ _ => readModifyWrite_sameAt _ (fun _ _ => rfl) fun _ _ => rfl

theorem shiftRightBy_reach (cin : State → Bool) : ReachesOperandOnly State.wM fun mode => shiftRightBy cin (.mem mode) :=
  fun _ _ _ => readModifyWrite_sameAt _ (fun _ _ => rfl) fun _ _ => rfl

/-! ### The forms together -/

/-- The frame of a list of forms that run one operation. -/
theorem FormsRun.sameAt {w : State → Width} {op : MemMode → State → Res Unit} {forms : List (Form MemMode)}
    (hrun : FormsRun forms op) (hreach : ReachesOperandOnly w op) {b : Addr} {s t : State} :
    ∀ f ∈ forms, OperandClearOf b f.operand (w s) s → exec f.instr s = .next t → SameAt b s t := by
  intro f hf hclear h
  rw [hrun f hf s] at h
  exact finish_sameAt (hreach hclear) h

section AllForms

variable (o : Byte) (a16 : Word) (a24 : Addr) {b : Addr} {s t : State}

theorem accumulatorWidthForms_sameAt : ∀ f ∈ staMemForms o a16 a24 ++ stzMemForms o a16 ++ incMemForms o a16 ++
    decMemForms o a16 ++ aslMemForms o a16 ++ lsrMemForms o a16 ++ rolMemForms o a16 ++ rorMemForms o a16 ++
    tsbMemForms o a16 ++ trbMemForms o a16,
    OperandClearOf b f.operand s.wM s → exec f.instr s = .next t → SameAt b s t := by
  simp only [List.forall_mem_append, and_assoc]
  exact ⟨(staMemForms_run o a16 a24).sameAt storeA_reach, (stzMemForms_run o a16).sameAt storeZero_reach,
    (incMemForms_run o a16).sameAt increment_reach, (decMemForms_run o a16).sameAt decrement_reach,
    (aslMemForms_run o a16).sameAt (shiftLeftBy_reach _), (lsrMemForms_run o a16).sameAt (shiftRightBy_reach _),
    (rolMemForms_run o a16).sameAt (shiftLeftBy_reach _), (rorMemForms_run o a16).sameAt (shiftRightBy_reach _),
    (tsbMemForms_run o a16).sameAt (testAndModify_reach _), (trbMemForms_run o a16).sameAt (testAndModify_reach _)⟩

theorem indexWidthForms_sameAt : ∀ f ∈ stxMemForms o a16 ++ styMemForms o a16,
    OperandClearOf b f.operand s.wX s → exec f.instr s = .next t → SameAt b s t := by
  rw [List.forall_mem_append]
  exact ⟨(stxMemForms_run o a16).sameAt storeX_reach, (styMemForms_run o a16).sameAt storeY_reach⟩

end AllForms

theorem operandClearOf_of_ok {b : Addr} {mode : MemMode} {w : Width} {s s1 : State} {ea : EA}
    (h : getAddress mode s = .ok ea s1) (hdma : awayFromDma ea w.bytes)
    (hother : ∀ k < w.bytes, sameByte (ea.byteAddr k) b = false) : OperandClearOf b mode w s := by
  intro ea' s1' h' k hk
  obtain ⟨rfl, -⟩ := Res.ok.inj (h.symm.trans h')
  exact ⟨hdma k hk, hother k hk⟩

/-- A mode whose pointer read raises has no operand. -/
theorem operandClearOf_of_raise {mode : MemMode} {s s1 : State} {e : Fault} (h : getAddress mode s = .raise e s1) (b : Addr)
    (w : Width) : OperandClearOf b mode w s :=
  fun _ _ h' => nomatch h.symm.trans h'

/-- Settles O58: each form's operation reads its pointer and its operand, and writes at the operand's bytes alone. -/
theorem storesReachTheirBytesOnly : Obligations.StoresReachTheirBytesOnly := by
  intro o a16 a24 s t
  constructor
  · intro f hf h
    exact ⟨fun ea s1 hea hdma b hother =>
        accumulatorWidthForms_sameAt o a16 a24 f hf (operandClearOf_of_ok hea hdma hother) h,
      fun e s1 hraise b => accumulatorWidthForms_sameAt o a16 a24 f hf (operandClearOf_of_raise hraise b s.wM) h⟩
  · intro f hf h
    exact ⟨fun ea s1 hea hdma b hother => indexWidthForms_sameAt o a16 f hf (operandClearOf_of_ok hea hdma hother) h,
      fun e s1 hraise b => indexWidthForms_sameAt o a16 f hf (operandClearOf_of_raise hraise b s.wX) h⟩

end Sys2Proof.Machine
end

section
/-! PROOFS. Loads and stores (R200-R207): the flags of a result, and each list of forms as one operation on its operand. -/

namespace Sys2Proof.Machine

open Sys2Proof.Claims

/-! ### N and Z (R207) -/

theorem signBit_eq_getLsbD (w : Width) (v : Word) : signBit w v = v.getLsbD (w.bits - 1) := by
  cases w <;> rfl

theorem isZeroAt_eq_decide (w : Width) (v : Word) : isZeroAt w v = decide (v.toNat % modulus w = 0) := by
  have htrunc : (trunc w v).toNat = v.toNat % modulus w := by
    cases w with
    | w8 => rw [trunc, zext8_toNat, loByte_toNat]; rfl
    | w16 => exact (Nat.mod_eq_of_lt v.isLt).symm
  rw [isZeroAt, Bool.eq_iff_iff, decide_eq_true_iff, beq_iff_eq, ← BitVec.toNat_inj, htrunc]
  rfl

theorem State.setNZ_eq_withNZ (s : State) (v : Word) (w : Width) : s.setNZ v w = withNZ w v s := by
  unfold State.setNZ Flags.setNZ withNZ nz
  rw [signBit_eq_getLsbD, isZeroAt_eq_decide]

/-! ### The ends of an instruction form -/

/-- Each of the forms encodes with its opcode (R128). -/
def FormsEncoded {α : Type} (forms : List (Form α)) : Prop := ∀ f ∈ forms, encodedAs f.instr f.opcode

theorem finish_of_ok {r : Res Unit} {t : State} (h : r = .ok () t) : finish r = .next t := finish_eq_next.2 (.inl h)

theorem finish_of_raise {r : Res Unit} {e : Fault} {t : State} (h : r = .raise e t) :
    finish r = .next { t with fault := some e } := finish_eq_next.2 (.inr ⟨e, t, h, rfl⟩)

/-- Forms whose operation reads the operand and then updates the state without a bus access. -/
theorem FormsRun.readThen {forms : List (Form Operand)} {op : Operand → State → Res Unit} {w : State → Width}
    {ok : State → Prop} {effect : Word → State → State} (hrun : FormsRun forms op) (henc : FormsEncoded forms)
    (hop : ∀ x s, ok s → op x s = (getValue x (w s) s).bind fun m t => .ok () (effect m t)) :
    ReadThen forms w ok effect := by
  intro f hf
  refine ⟨henc f hf, fun s hs => ?_⟩
  rw [hrun f hf s, hop _ s hs]
  exact ⟨fun m s1 h => finish_of_ok (by rw [h, Res.ok_bind]), fun e s1 h => finish_of_raise (by rw [h, Res.raise_bind])⟩

/-- Forms whose operation computes the address and writes there a value that the state before the address gives. -/
theorem FormsRun.stores {forms : List (Form MemMode)} {op : MemMode → State → Res Unit} {w : State → Width}
    {v : State → Word} (hrun : FormsRun forms op) (henc : FormsEncoded forms)
    (hop : ∀ mode s, op mode s = (getAddress mode s).bind fun ea t => writeN ea (w s).bytes (v s) t) :
    Stores forms w v := by
  intro f hf
  refine ⟨henc f hf, fun s => ?_⟩
  rw [hrun f hf s, hop]
  exact ⟨fun ea s1 t hea hw => finish_of_ok (Res.bind_eq_ok.2 ⟨ea, s1, hea, hw⟩), fun e t h => finish_of_raise h⟩

/-! ### Loads (R200-R202) -/

section LoadForms

variable (o : Byte) (a16 : Word) (a24 : Addr) (v : Imm)

theorem ldaForms_run : FormsRun (ldaForms o a16 a24 v) loadA := fun f hf s => by
  fin_cases hf <;> rfl

theorem ldxForms_run : FormsRun (ldxForms o a16 v) loadX := fun f hf s => by
  fin_cases hf <;> rfl

theorem ldyForms_run : FormsRun (ldyForms o a16 v) loadY := fun f hf s => by
  fin_cases hf <;> rfl

theorem ldaForms_encoded : FormsEncoded (ldaForms o a16 a24 v) := fun f hf => by
  fin_cases hf <;> rfl

theorem ldxForms_encoded : FormsEncoded (ldxForms o a16 v) := fun f hf => by
  fin_cases hf <;> rfl

theorem ldyForms_encoded : FormsEncoded (ldyForms o a16 v) := fun f hf => by
  fin_cases hf <;> rfl

end LoadForms

theorem loadA_eq (x : Operand) (s : State) :
    loadA x s = (getValue x s.wM s).bind fun m t => .ok () (withNZ (widthOf t.p.m) m (putA m t)) := by
  simp only [loadA, State.setNZ_eq_withNZ, State.setA_eq_putA]
  rfl

theorem loadX_eq (x : Operand) (s : State) :
    loadX x s = (getValue x s.wX s).bind fun m t => .ok () (withNZ (widthOf t.p.x) m (putX m t)) := by
  simp only [loadX, State.setNZ_eq_withNZ, State.setX_eq_putX]
  rfl

theorem loadY_eq (x : Operand) (s : State) :
    loadY x s = (getValue x s.wX s).bind fun m t => .ok () (withNZ (widthOf t.p.x) m (putY m t)) := by
  simp only [loadY, State.setNZ_eq_withNZ, State.setY_eq_putY]
  rfl

/-- Settles O21: each form runs its load, and the load's update is the register write with N and Z of the operand. -/
theorem loadsWriteTheOperand : Obligations.LoadsWriteTheOperand := fun o a16 a24 v =>
  ⟨(ldaForms_run o a16 a24 v).readThen (ldaForms_encoded o a16 a24 v) fun x s _ => loadA_eq x s,
    (ldxForms_run o a16 v).readThen (ldxForms_encoded o a16 v) fun x s _ => loadX_eq x s,
    (ldyForms_run o a16 v).readThen (ldyForms_encoded o a16 v) fun x s _ => loadY_eq x s⟩

/-! ### Stores (R203-R206) -/

section StoreForms

variable (o : Byte) (a16 : Word) (a24 : Addr)

theorem staMemForms_encoded : FormsEncoded (staMemForms o a16 a24) := fun f hf => by
  fin_cases hf <;> rfl

theorem stxMemForms_encoded : FormsEncoded (stxMemForms o a16) := fun f hf => by
  fin_cases hf <;> rfl

theorem styMemForms_encoded : FormsEncoded (styMemForms o a16) := fun f hf => by
  fin_cases hf <;> rfl

theorem stzMemForms_encoded : FormsEncoded (stzMemForms o a16) := fun f hf => by
  fin_cases hf <;> rfl

end StoreForms

/-- The value stored may be taken before the address: computing an address reads at most a pointer, which changes no register. -/
theorem storeTo_eq_of_readOnly {v : State → Word} {s : State} {x : Word} (hv : ∀ t, ReadOnly s t → v t = x) (mode : MemMode)
    (w : Width) : storeTo mode w v s = (getAddress mode s).bind fun ea t => writeN ea w.bytes x t := by
  have hread := getAddress_readOnly mode s
  unfold storeTo
  cases h : getAddress mode s with
  | ok ea t => rw [Res.ok_bind, Res.ok_bind, hv t (hread.of_ok h)]
  | raise e t => rfl

/-- Settles O22: each form runs its store, and the register's view is the same after the address is computed. -/
theorem storesWriteTheRegister : Obligations.StoresWriteTheRegister := fun o a16 a24 =>
  ⟨(staMemForms_run o a16 a24).stores (staMemForms_encoded o a16 a24) fun mode s =>
      storeTo_eq_of_readOnly (fun _ h => h.getA_eq.trans s.getA_eq_viewA) mode s.wM,
    (stxMemForms_run o a16).stores (stxMemForms_encoded o a16) fun mode s =>
      storeTo_eq_of_readOnly (fun _ h => h.getX_eq.trans s.getX_eq_viewX) mode s.wX,
    (styMemForms_run o a16).stores (styMemForms_encoded o a16) fun mode s =>
      storeTo_eq_of_readOnly (fun _ h => h.getY_eq.trans s.getY_eq_viewY) mode s.wX,
    (stzMemForms_run o a16).stores (stzMemForms_encoded o a16) fun _ _ => rfl⟩

end Sys2Proof.Machine
end

section
/-! PROOFS. Register transfers (R208, R210-R222): the flags of a value are those of its truncation to the width. -/

namespace Sys2Proof.Machine

open Sys2Proof.Claims

theorem signBit_trunc (w : Width) (v : Word) : signBit w (trunc w v) = signBit w v := by
  cases w with
  | w8 => simp [signBit, trunc, zext8, loByte]
  | w16 => rfl

theorem State.setNZ_trunc (s : State) (v : Word) (w : Width) : s.setNZ (trunc w v) w = s.setNZ v w := by
  simp only [State.setNZ, Flags.setNZ, signBit_trunc, isZeroAt, trunc_trunc]

section Transfers

variable (s : State) (v : Word)

theorem State.getA_setA : (s.setA v).getA = trunc s.wM v := by
  rw [State.getA, State.setA_wM]
  cases hm : s.p.m with
  | true => rw [State.setA_w8 s v hm, State.wM, hm, if_pos rfl, trunc, loByte_mkWord, trunc]
  | false => rw [State.setA_w16 s v hm]

theorem State.getX_setX : (s.setX v).getX = trunc s.wX v := trunc_trunc s.wX v

theorem State.getY_setY : (s.setY v).getY = trunc s.wX v := trunc_trunc s.wX v

theorem State.transferToA_eq : s.transferToA v = withNZ (widthOf s.p.m) v (putA v s) := by
  unfold State.transferToA
  dsimp only
  rw [State.getA_setA, State.setA_wM, State.setNZ_trunc, State.setNZ_eq_withNZ, State.setA_eq_putA]
  rfl

theorem State.transferToX_eq : s.transferToX v = withNZ (widthOf s.p.x) v (putX v s) := by
  unfold State.transferToX
  dsimp only
  rw [State.getX_setX, State.setX_wX, State.setNZ_trunc, State.setNZ_eq_withNZ, State.setX_eq_putX]
  rfl

theorem State.transferToY_eq : s.transferToY v = withNZ (widthOf s.p.x) v (putY v s) := by
  unfold State.transferToY
  dsimp only
  rw [State.getY_setY, State.setY_wX, State.setNZ_trunc, State.setNZ_eq_withNZ, State.setY_eq_putY]
  rfl

theorem State.transferToC16_eq : s.transferToC16 v = withNZ .w16 v { s with a := v } := State.setNZ_eq_withNZ _ v .w16

end Transfers

/-- Settles O23, instruction by instruction. -/
theorem transfersTakeTheDestinationWidth : Obligations.TransfersTakeTheDestinationWidth := fun s =>
  ⟨⟨rfl, congrArg _ (s.transferToX_eq s.a)⟩, ⟨rfl, congrArg _ (s.transferToY_eq s.a)⟩,
    ⟨rfl, congrArg _ (s.transferToA_eq s.x)⟩, ⟨rfl, congrArg _ (s.transferToA_eq s.y)⟩,
    ⟨rfl, congrArg _ (s.transferToY_eq s.x)⟩, ⟨rfl, congrArg _ (s.transferToX_eq s.y)⟩,
    ⟨rfl, congrArg _ (s.transferToX_eq s.sp)⟩⟩

theorem mkWord_loByte_hiByte_eq_or (v : Word) : mkWord (loByte v) (hiByte v) = (v >>> 8) ||| (v <<< 8) := by
  apply BitVec.eq_of_getLsbD_eq
  intro i hi
  rw [mkWord_getLsbD]
  interval_cases i <;> simp [hiByte, loByte]

theorem execXba_eq (s : State) :
    exec .xba s = .next (withNZ .w8 ((hiByte s.a).setWidth 16) { s with a := (s.a >>> 8) ||| (s.a <<< 8) }) := by
  rw [← mkWord_loByte_hiByte_eq_or, ← State.setNZ_eq_withNZ]
  rfl

/-- Settles O24, instruction by instruction. -/
theorem sixteenBitTransfers : Obligations.SixteenBitTransfers := fun s =>
  ⟨⟨rfl, congrArg _ (s.setS_eq_pinned s.x)⟩, ⟨rfl, congrArg _ (s.setS_eq_pinned s.a)⟩,
    ⟨rfl, congrArg _ (s.transferToC16_eq s.sp)⟩, ⟨rfl, congrArg _ (State.setNZ_eq_withNZ { s with d := s.a } s.a .w16)⟩,
    ⟨rfl, congrArg _ (s.transferToC16_eq s.d)⟩, ⟨rfl, execXba_eq s⟩⟩

end Sys2Proof.Machine
end

section
/-! PROOFS. Plain storage (log 5): with a cartridge of plain storage a read completes and changes the latch alone, and a
write away from the DMA-enable register completes and leaves the cartridge plain storage (R80, R81, R442). -/

namespace Sys2Proof.Machine

/-! ### Sparse storage, entry by entry -/

section Sparse

variable {β : Type} (d : β)

/-- A read gives the value of an entry, or the default. -/
theorem sparseRead_eq_or_mem (a : Nat) : ∀ m : List (Nat × β), sparseRead d m a = d ∨ (a, sparseRead d m a) ∈ m
  | [] => .inl rfl
  | (k, v) :: rest => by
    by_cases hk : k = a
    · simp [sparseRead, hk]
    · simpa [sparseRead, hk] using (sparseRead_eq_or_mem a rest).imp_right fun h => .inr h

/-- A write lists no entry but its own and those listed before. -/
theorem mem_of_mem_sparseWrite [DecidableEq β] {a : Nat} {v : β} {e : Nat × β} :
    ∀ {m : List (Nat × β)}, e ∈ sparseWrite d m a v → e = (a, v) ∨ e ∈ m
  | [], h => by
    unfold sparseWrite at h
    split at h
    · exact .inr h
    · exact .inl (List.mem_singleton.1 h)
  | (k, w) :: rest, h => by
    unfold sparseWrite at h
    split_ifs at h with hak hv hk hv
    · exact .inr h
    · exact List.mem_cons.1 h
    · exact .inr (List.mem_cons_of_mem _ h)
    · exact (List.mem_cons.1 h).imp_right (List.mem_cons_of_mem _)
    · rcases List.mem_cons.1 h with rfl | h
      · exact .inr List.mem_cons_self
      · exact (mem_of_mem_sparseWrite h).imp_right (List.mem_cons_of_mem _)

end Sparse

/-! ### The cartridge -/

/-- A cell of plain storage: nothing drives it, or it is a ROM or RAM byte. -/
def CartCell.isPlain : CartCell → Bool
  | .undriven | .rom _ | .ram _ => true
  | .device | .unsupported => false

theorem State.cartPlain_iff (s : State) : s.cartPlain = true ↔ ∀ e ∈ s.cart.cells, e.2.isPlain = true := by
  simp only [State.cartPlain, List.all_eq_true]
  exact forall₂_congr fun e _ => by cases e.2 <;> rfl

section Plain

variable {s : State} (h : s.cartPlain = true)
include h

theorem cartCell_isPlain (a : Nat) : (sparseRead CartCell.undriven s.cart.cells a).isPlain = true := by
  rcases sparseRead_eq_or_mem CartCell.undriven a s.cart.cells with hd | hmem
  · rw [hd]
    rfl
  · exact s.cartPlain_iff.1 h _ hmem

/-- A read with a plain cartridge completes, and changes the latch alone. -/
theorem memRead_of_cartPlain (a : Addr) : ∃ v, memRead a s = .ok v { s with mdr := v } := by
  cases hd : decodeAddr a with
  | wram i => exact ⟨_, memRead_wram hd⟩
  | reg o => exact ⟨_, memRead_reg hd⟩
  | openBus => exact ⟨_, memRead_openBus hd⟩
  | undecoded => exact absurd hd (decodeAddr_ne_undecoded a)
  | cart b =>
    obtain rfl := decodeAddr_cart hd
    have hplain := cartCell_isPlain h (cartKey b)
    cases hc : sparseRead CartCell.undriven s.cart.cells (cartKey b) with
    | undriven => exact ⟨_, memRead_cart_undriven hd (by rw [cartRead, hc])⟩
    | rom v => exact ⟨v, memRead_cart_byte hd (by rw [cartRead, hc])⟩
    | ram v => exact ⟨v, memRead_cart_byte hd (by rw [cartRead, hc])⟩
    | device => simp [hc, CartCell.isPlain] at hplain
    | unsupported => simp [hc, CartCell.isPlain] at hplain

/-- A plain cartridge takes every write, and stays plain. -/
theorem cartWrite_of_cartPlain (a : Addr) (v : Byte) :
    ∃ c, cartWrite s.cart a v = some c ∧ { s with cart := c }.cartPlain = true := by
  have hplain := cartCell_isPlain h (cartKey a)
  unfold cartWrite
  cases hc : sparseRead CartCell.undriven s.cart.cells (cartKey a) with
  | undriven => exact ⟨_, rfl, h⟩
  | rom w => exact ⟨_, rfl, h⟩
  | ram w =>
    refine ⟨_, rfl, (State.cartPlain_iff _).2 fun e he => ?_⟩
    rcases mem_of_mem_sparseWrite CartCell.undriven he with rfl | he
    · rfl
    · exact s.cartPlain_iff.1 h e he
  | device => simp [hc, CartCell.isPlain] at hplain
  | unsupported => simp [hc, CartCell.isPlain] at hplain

/-- A write away from the DMA-enable register completes with a plain cartridge, and leaves it plain. -/
theorem memWrite_of_cartPlain {a : Addr} (hdma : decodeAddr a ≠ .reg 0x420B) (v : Byte) :
    ∃ t, memWrite a v s = .ok () t ∧ t.cartPlain = true := by
  cases hd : decodeAddr a with
  | wram i => exact ⟨_, memWrite_wram hd, h⟩
  | reg o => exact ⟨_, memWrite_reg hd (by rintro rfl; exact hdma hd), h⟩
  | openBus => exact ⟨_, memWrite_openBus hd, h⟩
  | undecoded => exact absurd hd (decodeAddr_ne_undecoded a)
  | cart b =>
    obtain rfl := decodeAddr_cart hd
    obtain ⟨c, hc, hplain⟩ := cartWrite_of_cartPlain h b v
    exact ⟨_, memWrite_cart hd hc, hplain⟩

end Plain

end Sys2Proof.Machine
end

section
/-! PROOFS. Block moves (R225, R226): byte after byte, the raise of a byte, and where the registers end. -/

namespace Sys2Proof.Machine

open Sys2Proof.Claims

/-! ### One byte -/

theorem Res.bind_assoc {α β γ : Type} (r : Res α) (f : α → State → Res β) (g : β → State → Res γ) :
    (r.bind f).bind g = r.bind fun v t => (f v t).bind g := by
  cases r <;> rfl

/-- The two accesses of one byte of a block move. -/
def moveAccess (dbk sbk : Byte) (s : State) : Res Unit :=
  (memRead (mkAddr sbk (viewX s)) s).bind fun v t => memWrite (mkAddr dbk (viewY t)) v t

/-- The registers after one byte of a block move: X and Y stepped at their width, C16 counted down. -/
def State.advanced (s : State) (delta : Word) : State :=
  { putY (viewY s + delta) (putX (viewX s + delta) s) with a := s.a - 1 }

theorem blockMoveByte_eq (delta : Word) (dbk sbk : Byte) (s : State) :
    blockMoveByte delta dbk sbk s = (moveAccess dbk sbk s).bind fun _ t => .ok () (t.advanced delta) := by
  simp only [blockMoveByte, moveAccess, Res.bind_assoc, State.getX_eq_viewX, State.getY_eq_viewY, State.setX_eq_putX,
    State.setY_eq_putY]
  rfl

theorem moveAccess_busOnly (dbk sbk : Byte) (s : State) : (moveAccess dbk sbk s).All (BusOnly s) :=
  (memRead_busOnly _ s).bind_busOnly fun _ t => memWrite_busOnly _ _ t

/-! ### All bytes -/

section Bytes

variable {delta : Word} {dbk sbk : Byte}

/-- `Moves`, with the two accesses of its first byte as one operation. -/
theorem moves_succ_iff {n : Nat} {s t : State} : Moves delta dbk sbk (n + 1) s t ↔
    ∃ u, moveAccess dbk sbk s = .ok () u ∧ Moves delta dbk sbk n (u.advanced delta) t := by
  constructor
  · intro h
    cases h with
    | byte hr hw rest => exact ⟨_, by rw [moveAccess, hr, Res.ok_bind, hw], rest⟩
  · rintro ⟨u, hu, rest⟩
    obtain ⟨v, s1, hr, hw⟩ := Res.bind_eq_ok.1 hu
    exact .byte hr hw rest

theorem moves_zero_iff {s t : State} : Moves delta dbk sbk 0 s t ↔ t = s := by
  constructor
  · intro h
    cases h
    rfl
  · rintro rfl
    exact .done t

theorem blockMoveBytes_of_moves : ∀ {n : Nat} {s t : State}, Moves delta dbk sbk (n + 1) s t →
    blockMoveBytes delta dbk sbk n s = .ok () t
  | 0, s, t, h => by
    obtain ⟨u, hu, rest⟩ := moves_succ_iff.1 h
    rw [blockMoveBytes, blockMoveByte_eq, hu, moves_zero_iff.1 rest, Res.ok_bind]
  | n + 1, s, t, h => by
    obtain ⟨u, hu, rest⟩ := moves_succ_iff.1 h
    rw [blockMoveBytes, blockMoveByte_eq, hu, Res.ok_bind, Res.ok_bind, blockMoveBytes_of_moves rest]

/-- A byte whose access raises ends the move there, however many bytes were still to come. -/
theorem blockMoveBytes_of_raise {f : Fault} {u : State} (m : Nat) : ∀ {n : Nat} {s t : State},
    Moves delta dbk sbk n s t → moveAccess dbk sbk t = .raise f u → blockMoveBytes delta dbk sbk (n + m) s = .raise f u
  | 0, s, t, h, hraise => by
    rw [moves_zero_iff.1 h] at hraise
    cases m <;> simp [blockMoveBytes, blockMoveByte_eq, hraise]
  | n + 1, s, t, h, hraise => by
    obtain ⟨w, hw, rest⟩ := moves_succ_iff.1 h
    rw [Nat.succ_add, blockMoveBytes, blockMoveByte_eq, hw, Res.ok_bind, Res.ok_bind, blockMoveBytes_of_raise m rest hraise]

theorem blockMove_of_moves {s t : State} (h : Moves delta dbk sbk (s.a.toNat + 1) { s with dbr := dbk } t) :
    blockMove delta dbk sbk s = .ok () t := blockMoveBytes_of_moves h

theorem blockMove_of_raise {n : Nat} {s t u : State} {f : Fault} (hn : n ≤ s.a.toNat)
    (h : Moves delta dbk sbk n { s with dbr := dbk } t) (hraise : moveAccess dbk sbk t = .raise f u) :
    blockMove delta dbk sbk s = .raise f u := by
  rw [blockMove, ← Nat.add_sub_cancel' hn]
  exact blockMoveBytes_of_raise _ h hraise

end Bytes

/-- The two ends of a block move. -/
theorem finish_blockMove (delta : Word) (dbk sbk : Byte) (s : State) :
    (∀ t, Moves delta dbk sbk (s.a.toNat + 1) { s with dbr := dbk } t → finish (blockMove delta dbk sbk s) = .next t) ∧
    (∀ n t f u, n ≤ s.a.toNat → Moves delta dbk sbk n { s with dbr := dbk } t → moveAccess dbk sbk t = .raise f u →
      finish (blockMove delta dbk sbk s) = .next { u with fault := some f }) :=
  ⟨fun _ h => finish_of_ok (blockMove_of_moves h),
    fun _ _ _ _ hn h hraise => finish_of_raise (blockMove_of_raise hn h hraise)⟩

/-- Settles O25: both instructions run the move, and the move follows the relation byte by byte. -/
theorem blockMovesMoveEveryByte : Obligations.BlockMovesMoveEveryByte := by
  intro dbk sbk s
  simp only [List.forall_mem_cons]
  exact ⟨⟨rfl, finish_blockMove 1 dbk sbk s⟩, ⟨rfl, finish_blockMove 0xFFFF dbk sbk s⟩, List.forall_mem_nil _⟩

/-! ### The registers after a move -/

/-- `t` is a state after `n` bytes moved from `s`, as far as the registers that a move steps or keeps. -/
structure Stepped (delta : Word) (n : Nat) (s t : State) : Prop where
  a : t.a = s.a - BitVec.ofNat 16 n
  x : t.x = trunc s.wX (s.x + BitVec.ofNat 16 n * delta)
  y : t.y = trunc s.wX (s.y + BitVec.ofNat 16 n * delta)
  p : t.p = s.p
  dbr : t.dbr = s.dbr
  fault : t.fault = s.fault

section Registers

variable {delta : Word} {dbk sbk : Byte} {s t u : State}

theorem BusOnly.stepped_advanced (h : BusOnly s t) : Stepped delta 1 s (t.advanced delta) := by
  have hstep (v : Word) : trunc s.wX (trunc s.wX v + delta) = trunc s.wX (v + BitVec.ofNat 16 1 * delta) := by
    rw [trunc_trunc_add, BitVec.one_mul]
  have hx : (t.advanced delta).x = trunc s.wX (s.getX + delta) := by
    rw [← h.wX_eq, ← h.getX_eq, State.getX_eq_viewX]
    exact congrArg State.x (t.setX_eq_putX (viewX t + delta)).symm
  have hy : (t.advanced delta).y = trunc s.wX (s.getY + delta) := by
    rw [← h.wX_eq, ← h.getY_eq, State.getY_eq_viewY]
    exact congrArg State.y (t.setY_eq_putY (viewY t + delta)).symm
  exact ⟨congrArg (· - 1) h.a_eq, hx.trans (hstep s.x), hy.trans (hstep s.y), h.p_eq, h.dbr_eq, h.fault_eq⟩

/-- The step of an index register by one byte and then by `n` more. -/
theorem trunc_step_succ (w : Width) (v delta : Word) (n : Nat) :
    trunc w (trunc w (v + BitVec.ofNat 16 1 * delta) + BitVec.ofNat 16 n * delta) =
      trunc w (v + BitVec.ofNat 16 (n + 1) * delta) := by
  rw [trunc_trunc_add, BitVec.ofNat_add, BitVec.add_mul, BitVec.add_comm (_ * delta), BitVec.add_assoc]

theorem Stepped.wX_eq {n : Nat} (h : Stepped delta n s t) : t.wX = s.wX := by
  unfold State.wX
  rw [h.p]

theorem Stepped.trans {n : Nat} (h1 : Stepped delta 1 s t) (h2 : Stepped delta n t u) : Stepped delta (n + 1) s u where
  a := by rw [h2.a, h1.a, BitVec.sub_sub, BitVec.ofNat_add, BitVec.add_comm]
  x := by rw [h2.x, h1.x, h1.wX_eq, trunc_step_succ]
  y := by rw [h2.y, h1.y, h1.wX_eq, trunc_step_succ]
  p := h2.p.trans h1.p
  dbr := h2.dbr.trans h1.dbr
  fault := h2.fault.trans h1.fault

theorem moves_stepped : ∀ {n : Nat} {s t : State}, Moves delta dbk sbk (n + 1) s t → Stepped delta (n + 1) s t
  | 0, s, t, h => by
    obtain ⟨u, hu, rest⟩ := moves_succ_iff.1 h
    rw [moves_zero_iff.1 rest]
    exact ((moveAccess_busOnly dbk sbk s).of_ok hu).stepped_advanced
  | n + 1, s, t, h => by
    obtain ⟨u, hu, rest⟩ := moves_succ_iff.1 h
    exact ((moveAccess_busOnly dbk sbk s).of_ok hu).stepped_advanced.trans (moves_stepped rest)

/-! ### With a plain cartridge a move completes -/

theorem Stepped.moveTarget_succ (h : Stepped delta 1 s t) (k : Nat) :
    moveTarget delta dbk t k = moveTarget delta dbk s (k + 1) := by
  rw [moveTarget_eq, moveTarget_eq, h.wX_eq, h.y, trunc_step_succ]

theorem moveAccess_of_cartPlain (hplain : s.cartPlain = true) (hdma : decodeAddr (moveTarget delta dbk s 0) ≠ .reg 0x420B) :
    ∃ t, moveAccess dbk sbk s = .ok () t ∧ t.cartPlain = true := by
  obtain ⟨v, hr⟩ := memRead_of_cartPlain hplain (mkAddr sbk (viewX s))
  have htarget : moveTarget delta dbk s 0 = mkAddr dbk (viewY s) := by simp [moveTarget, viewY]
  rw [htarget] at hdma
  rw [moveAccess, hr]
  exact memWrite_of_cartPlain (s := { s with mdr := v }) hplain hdma v

theorem exists_moves_of_cartPlain (dbk sbk : Byte) : ∀ (n : Nat) (s : State), s.cartPlain = true →
    (∀ k < n, decodeAddr (moveTarget delta dbk s k) ≠ .reg 0x420B) → ∃ t, Moves delta dbk sbk n s t
  | 0, s, _, _ => ⟨s, .done s⟩
  | n + 1, s, hplain, hdma => by
    obtain ⟨u, hu, huPlain⟩ := moveAccess_of_cartPlain hplain (hdma 0 (Nat.succ_pos n))
    have hone : Stepped delta 1 s (u.advanced delta) := ((moveAccess_busOnly dbk sbk s).of_ok hu).stepped_advanced
    obtain ⟨t, rest⟩ := exists_moves_of_cartPlain dbk sbk n (u.advanced delta) huPlain fun k hk => by
      rw [hone.moveTarget_succ]
      exact hdma (k + 1) (Nat.succ_lt_succ hk)
    exact ⟨t, moves_succ_iff.2 ⟨u, hu, rest⟩⟩

theorem ofNat_toNat_add_one (v : Word) : BitVec.ofNat 16 (v.toNat + 1) = v + 1 := by
  rw [BitVec.ofNat_add, BitVec.ofNat_toNat, BitVec.setWidth_eq]
  rfl

/-- Where a move of `C16 + 1` bytes ends. -/
theorem blockMove_ends {i : Instr} (hrun : exec i s = finish (blockMove delta dbk sbk s)) (hplain : s.cartPlain = true)
    (hdma : ∀ k ≤ s.a.toNat, decodeAddr (moveTarget delta dbk s k) ≠ .reg 0x420B) :
    ∃ t, exec i s = .next t ∧ t.a = 0xFFFF ∧ t.dbr = dbk ∧ t.fault = s.fault ∧
      t.x = trunc s.wX (s.x + BitVec.ofNat 16 (s.a.toNat + 1) * delta) ∧
      t.y = trunc s.wX (s.y + BitVec.ofNat 16 (s.a.toNat + 1) * delta) := by
  obtain ⟨t, h⟩ := exists_moves_of_cartPlain dbk sbk (s.a.toNat + 1) { s with dbr := dbk } hplain fun k hk =>
    hdma k (Nat.le_of_lt_succ hk)
  have hstep := moves_stepped h
  have hlast : s.a - BitVec.ofNat 16 (s.a.toNat + 1) = 0xFFFF := by
    rw [ofNat_toNat_add_one]
    bv_omega
  exact ⟨t, hrun.trans (finish_of_ok (blockMove_of_moves h)), hstep.a.trans hlast, hstep.dbr, hstep.fault, hstep.x, hstep.y⟩

end Registers

/-! ### The last values of X and Y -/

section LastIndex

variable (s : State) (v : Word)

/-- An index register that steps up by one, `C16 + 1` times (R225). -/
theorem trunc_step_up : trunc s.wX (v + BitVec.ofNat 16 (s.a.toNat + 1) * 1) =
    if s.p.x then (v + s.a + 1) &&& 0x00FF else v + s.a + 1 := by
  have hup : v + BitVec.ofNat 16 (s.a.toNat + 1) * 1 = v + s.a + 1 := by
    rw [ofNat_toNat_add_one]
    ring
  rw [hup]
  exact trunc_of_flag s.p.x _

/-- An index register that steps down by one, `C16 + 1` times (R226). -/
theorem trunc_step_down : trunc s.wX (v + BitVec.ofNat 16 (s.a.toNat + 1) * 0xFFFF) =
    if s.p.x then (v - s.a - 1) &&& 0x00FF else v - s.a - 1 := by
  have hdown : v + BitVec.ofNat 16 (s.a.toNat + 1) * 0xFFFF = v - s.a - 1 := by
    have hneg : (0xFFFF : Word) = -1 := rfl
    rw [ofNat_toNat_add_one, hneg]
    ring
  rw [hdown]
  exact trunc_of_flag s.p.x _

end LastIndex

/-- Settles O26: with a plain cartridge the move completes, and the registers have stepped once for each byte. -/
theorem blockMovesEnd : Obligations.BlockMovesEnd := fun _ _ s hplain =>
  ⟨fun hdma => by simpa only [trunc_step_up] using blockMove_ends (s := s) rfl hplain hdma,
    fun hdma => by simpa only [trunc_step_down] using blockMove_ends (s := s) rfl hplain hdma⟩

end Sys2Proof.Machine
end

section
/-! PROOFS. The operand arithmetic of a width (R12): truncation as a remainder, the complement, and sign bits as comparisons; then
V and C of ADC and SBC as integer arithmetic (R251, R252, R275). -/

namespace Sys2Proof.Machine

open Sys2Proof.Claims

/-! ### Words at a width -/

theorem modulus_w8 : modulus .w8 = 256 := rfl

theorem modulus_w16 : modulus .w16 = 65536 := rfl

theorem modulus_pos (w : Width) : 0 < modulus w := Nat.two_pow_pos w.bits

theorem wrapped_toNat (w : Width) (n : Nat) : (wrapped w n).toNat = n % modulus w := by
  have hlt := Nat.mod_lt n (modulus_pos w)
  rw [wrapped, BitVec.toNat_ofNat, Nat.mod_eq_of_lt]
  cases w <;> simp only [modulus_w8, modulus_w16] at hlt ⊢ <;> omega

theorem trunc_toNat (w : Width) (v : Word) : (trunc w v).toNat = v.toNat % modulus w := by
  cases w with
  | w8 => rw [trunc, zext8_toNat, loByte_toNat, modulus_w8]
  | w16 => exact (Nat.mod_eq_of_lt v.isLt).symm

theorem trunc_lt (w : Width) (v : Word) : (trunc w v).toNat < modulus w := by
  rw [trunc_toNat]
  exact Nat.mod_lt _ (modulus_pos w)

theorem State.getA_lt (s : State) : s.getA.toNat < modulus s.wM := trunc_lt s.wM s.a

theorem trunc_eq_wrapped {w : Width} {v : Word} {n : Nat} (h : v.toNat % modulus w = n % modulus w) :
    trunc w v = wrapped w n := by
  rw [← BitVec.toNat_inj, trunc_toNat, wrapped_toNat, h]

theorem trunc_sub {w : Width} (a : Word) {m : Word} (hm : m.toNat < modulus w) :
    trunc w (a - m) = wrapped w (a.toNat + modulus w - m.toNat) := by
  apply trunc_eq_wrapped
  rw [BitVec.toNat_sub]
  cases w <;> simp only [modulus_w8, modulus_w16] at hm ⊢ <;> omega

/-- The operand's complement, which SBC adds (R252). -/
theorem trunc_not_toNat {w : Width} {m : Word} (hm : m.toNat < modulus w) :
    (trunc w (~~~m)).toNat = modulus w - 1 - m.toNat := by
  rw [trunc_toNat, BitVec.toNat_not]
  cases w <;> simp only [modulus_w8, modulus_w16] at hm ⊢ <;> omega

/-! ### Sign bits -/

section SignBit

variable (w : Width) (u v : Word)

theorem signBit_and : signBit w (u &&& v) = (signBit w u && signBit w v) := by
  cases w <;> exact BitVec.getLsbD_and

theorem signBit_xor : signBit w (u ^^^ v) = (signBit w u ^^ signBit w v) := by
  cases w <;> exact BitVec.getLsbD_xor

theorem signBit_not : signBit w (~~~v) = !signBit w v := by
  cases w <;> simp [signBit]

end SignBit

theorem signBit_of_lt {w : Width} {v : Word} (h : v.toNat < modulus w) : signBit w v = decide (modulus w / 2 ≤ v.toNat) := by
  rw [signBit_eq_getLsbD, ← BitVec.testBit_toNat, Nat.testBit_eq_decide_div_mod_eq, decide_eq_decide]
  cases w <;> simp only [modulus_w8, modulus_w16, Width.bits] at h ⊢ <;> omega

theorem signed_trunc_not {w : Width} {m : Word} (hm : m.toNat < modulus w) : signed w (trunc w (~~~m)) = -signed w m - 1 := by
  unfold signed
  rw [trunc_not_toNat hm]
  cases w <;> simp only [modulus_w8, modulus_w16] at hm ⊢ <;> split_ifs <;> omega

/-! ### Overflow and carry -/

section Overflow

variable {w : Width} {a m : Word}

/-- The result's sign differs from that of both operands, which agree (R251). -/
theorem addWithCarry_overflow_iff_signs (ha : a.toNat < modulus w) (hm : m.toNat < modulus w) (c : Bool) :
    (addWithCarry w a m c).overflow = true ↔
      (modulus w / 2 ≤ a.toNat ↔ modulus w / 2 ≤ m.toNat) ∧
        ¬(modulus w / 2 ≤ a.toNat ↔ modulus w / 2 ≤ (a.toNat + m.toNat + c.toNat) % modulus w) := by
  have hvalue : (wrapped w (a.toNat + m.toNat + c.toNat)).toNat < modulus w := by
    rw [wrapped_toNat]
    exact Nat.mod_lt _ (modulus_pos w)
  change signBit w (~~~(a ^^^ m) &&& (a ^^^ wrapped w (a.toNat + m.toNat + c.toNat))) = true ↔ _
  rw [signBit_and, signBit_not, signBit_xor, signBit_xor, signBit_of_lt ha, signBit_of_lt hm, signBit_of_lt hvalue,
    wrapped_toNat]
  simp

theorem addWithCarry_overflow_iff (ha : a.toNat < modulus w) (hm : m.toNat < modulus w) (c : Bool) :
    (addWithCarry w a m c).overflow = true ↔
      ¬(-(modulus w / 2 : Int) ≤ signed w a + signed w m + c.toNat ∧
        signed w a + signed w m + c.toNat < (modulus w / 2 : Int)) := by
  rw [addWithCarry_overflow_iff_signs ha hm]
  have hc := Bool.toNat_lt c
  unfold signed
  cases w <;> simp only [modulus_w8, modulus_w16] at ha hm ⊢ <;> split_ifs <;> omega

theorem addWithCarry_carry_iff (w : Width) (a m : Word) (c : Bool) :
    (addWithCarry w a m c).carry = true ↔ modulus w ≤ a.toNat + m.toNat + c.toNat := decide_eq_true_iff

/-- Subtraction is addition of the complement, and V by the formula of R252 is V of that addition. -/
theorem subWithBorrow_eq_addWithCarry (w : Width) (a m : Word) (c : Bool) :
    subWithBorrow w a m c = addWithCarry w a (trunc w (~~~m)) c := by
  simp only [subWithBorrow, addWithCarry, signBit_and, signBit_xor, signBit_not, signBit_trunc, Bool.xor_not, Bool.not_not]

theorem subWithBorrow_overflow_iff (ha : a.toNat < modulus w) (hm : m.toNat < modulus w) (c : Bool) :
    (subWithBorrow w a m c).overflow = true ↔
      ¬(-(modulus w / 2 : Int) ≤ signed w a - signed w m - (!c).toNat ∧
        signed w a - signed w m - (!c).toNat < (modulus w / 2 : Int)) := by
  have hsum : signed w a + signed w (trunc w (~~~m)) + c.toNat = signed w a - signed w m - (!c).toNat := by
    rw [signed_trunc_not hm]
    cases c <;> simp <;> ring
  rw [subWithBorrow_eq_addWithCarry, addWithCarry_overflow_iff ha (trunc_lt w _), hsum]

theorem subWithBorrow_carry_iff (hm : m.toNat < modulus w) (c : Bool) :
    (subWithBorrow w a m c).carry = true ↔ m.toNat + (!c).toNat ≤ a.toNat := by
  rw [subWithBorrow_eq_addWithCarry, addWithCarry_carry_iff, trunc_not_toNat hm]
  cases c <;> simp only [Bool.toNat_false, Bool.toNat_true, Bool.not_false, Bool.not_true] <;> omega

end Overflow

/-- Settles O29: the sign bits of the addition, and subtraction as addition of the complement. -/
theorem overflowAndCarryAreArithmetic : Obligations.OverflowAndCarryAreArithmetic := fun w a m c ha hm =>
  ⟨addWithCarry_overflow_iff ha hm c, addWithCarry_carry_iff w a m c, subWithBorrow_overflow_iff ha hm c,
    subWithBorrow_carry_iff hm c⟩

end Sys2Proof.Machine
end

section
/-! PROOFS. The forms that read an operand and make no other access (R250-R255, R262-R265): ADC and SBC with the decimal check, the
compares, the logic instructions and BIT; and the index steps (R258-R261). -/

namespace Sys2Proof.Machine

open Sys2Proof.Claims

/-! ### The forms and their operations -/

/-- Each of the forms runs an operation on its operand that also takes its opcode, for the decimal fault to record (R250). -/
def FormsRunWithOpcode (forms : List (Form Operand)) (op : Byte → Operand → State → Res Unit) : Prop :=
  ∀ f ∈ forms, ∀ s, exec f.instr s = finish (op f.opcode f.operand s)

section ReadForms

variable (o : Byte) (a16 : Word) (a24 : Addr) (v : Imm)

theorem adcForms_run : FormsRunWithOpcode (adcForms o a16 a24 v) addA := fun f hf s => by
  fin_cases hf <;> rfl

theorem sbcForms_run : FormsRunWithOpcode (sbcForms o a16 a24 v) subA := fun f hf s => by
  fin_cases hf <;> rfl

theorem cmpForms_run : FormsRun (cmpForms o a16 a24 v) compareA := fun f hf s => by
  fin_cases hf <;> rfl

theorem cpxForms_run : FormsRun (cpxForms o a16 v) compareX := fun f hf s => by
  fin_cases hf <;> rfl

theorem cpyForms_run : FormsRun (cpyForms o a16 v) compareY := fun f hf s => by
  fin_cases hf <;> rfl

theorem andForms_run : FormsRun (andForms o a16 a24 v) (logicA (· &&& ·)) := fun f hf s => by
  fin_cases hf <;> rfl

theorem oraForms_run : FormsRun (oraForms o a16 a24 v) (logicA (· ||| ·)) := fun f hf s => by
  fin_cases hf <;> rfl

theorem eorForms_run : FormsRun (eorForms o a16 a24 v) (logicA (· ^^^ ·)) := fun f hf s => by
  fin_cases hf <;> rfl

theorem bitMemForms_run : FormsRun (bitMemForms o a16) bitMemory := fun f hf s => by
  fin_cases hf <;> rfl

theorem adcForms_encoded : FormsEncoded (adcForms o a16 a24 v) := fun f hf => by
  fin_cases hf <;> rfl

theorem sbcForms_encoded : FormsEncoded (sbcForms o a16 a24 v) := fun f hf => by
  fin_cases hf <;> rfl

theorem cmpForms_encoded : FormsEncoded (cmpForms o a16 a24 v) := fun f hf => by
  fin_cases hf <;> rfl

theorem cpxForms_encoded : FormsEncoded (cpxForms o a16 v) := fun f hf => by
  fin_cases hf <;> rfl

theorem cpyForms_encoded : FormsEncoded (cpyForms o a16 v) := fun f hf => by
  fin_cases hf <;> rfl

theorem andForms_encoded : FormsEncoded (andForms o a16 a24 v) := fun f hf => by
  fin_cases hf <;> rfl

theorem oraForms_encoded : FormsEncoded (oraForms o a16 a24 v) := fun f hf => by
  fin_cases hf <;> rfl

theorem eorForms_encoded : FormsEncoded (eorForms o a16 a24 v) := fun f hf => by
  fin_cases hf <;> rfl

theorem bitMemForms_encoded : FormsEncoded (bitMemForms o a16) := fun f hf => by
  fin_cases hf <;> rfl

theorem cpxForms_operand_ne_acc : ∀ f ∈ cpxForms o a16 v, f.operand ≠ .acc := fun f hf => by
  fin_cases hf <;> exact Operand.noConfusion

theorem cpyForms_operand_ne_acc : ∀ f ∈ cpyForms o a16 v, f.operand ≠ .acc := fun f hf => by
  fin_cases hf <;> exact Operand.noConfusion

end ReadForms

section ReadThen

variable {forms : List (Form Operand)} {w : State → Width} {ok : State → Prop} {effect effect' : Word → State → State}

/-- An operand that was read fits its width (R153), so an effect need be right for such values only. -/
theorem readThen_of_fits (h : ReadThen forms w ok effect) (hacc : ∀ f ∈ forms, ∀ s, f.operand = .acc → w s = s.wM)
    (hw : ∀ s t, ReadOnly s t → w t = w s) (heq : ∀ m t, m.toNat < modulus (w t) → effect m t = effect' m t) :
    ReadThen forms w ok effect' := by
  intro f hf
  obtain ⟨henc, hends⟩ := h f hf
  refine ⟨henc, fun s hs => ⟨fun m t hread => ?_, (hends s hs).2⟩⟩
  have hfits : m.toNat < modulus (w t) := by
    rw [hw s t ((getValue_readOnly _ _ s).of_ok hread)]
    exact getValue_lt (w s) (hacc f hf s) hread
  rw [← heq m t hfits]
  exact (hends s hs).1 m t hread

/-- The two cases of ADC and SBC: with D = 0 the operation on the operand, with D = 1 the decimal fault alone (R250). -/
theorem FormsRunWithOpcode.decimalChecked {op : Byte → Operand → State → Res Unit} (hrun : FormsRunWithOpcode forms op)
    (henc : FormsEncoded forms) (hop : ∀ opcode x s,
      op opcode x s = binaryOnly opcode s ((getValue x s.wM s).bind fun m t => .ok () (effect m t))) :
    ReadThen forms State.wM (fun s => s.p.d = false) effect ∧
      ∀ f ∈ forms, ∀ s : State, s.p.d = true →
        exec f.instr s = .next { s with fault := some (.decimalMode s.opAddr f.opcode) } := by
  constructor
  · intro f hf
    have hrunOne : FormsRun [f] (op f.opcode) := List.forall_mem_singleton.2 (hrun f hf)
    have hencOne : FormsEncoded [f] := List.forall_mem_singleton.2 (henc f hf)
    refine hrunOne.readThen hencOne (fun x s hd => ?_) f (List.mem_singleton_self f)
    rw [hop, binaryOnly, hd]
    rfl
  · intro f hf s hd
    rw [hrun f hf s, hop, binaryOnly, hd]
    rfl

end ReadThen

/-! ### ADC and SBC (R251, R252) -/

theorem Flags.setNZ_eq_nz (p : Flags) (v : Word) (w : Width) : p.setNZ v w = nz w v p := by
  rw [Flags.setNZ, signBit_eq_getLsbD, isZeroAt_eq_decide]
  rfl

theorem State.setAlu_eq (s : State) (r : AluResult) :
    s.setAlu r = { putA r.value s with p := { nz s.wM r.value s.p with c := r.carry, v := r.overflow } } := by
  rw [State.setAlu, Flags.setAlu, Flags.setNZ_eq_nz, State.setA_eq_putA]
  rfl

theorem State.setAlu_addWithCarry (m : Word) (s : State) : s.setAlu (addWithCarry s.wM s.getA m s.p.c) = added m s := by
  rw [State.setAlu_eq, addWithCarry, signBit_eq_getLsbD, State.getA_eq_viewA]
  rfl

theorem State.setAlu_subWithBorrow {m : Word} {s : State} (hm : m.toNat < modulus s.wM) :
    s.setAlu (subWithBorrow s.wM s.getA m s.p.c) = subtracted m s := by
  rw [State.setAlu_eq, subWithBorrow, trunc_not_toNat hm, signBit_eq_getLsbD, State.getA_eq_viewA]
  rfl

/-- Settles O27: the two cases of D, and the update is R251's. (`addWithCarry` is the model's own function.) -/
theorem addWithCarry_everyForm : Obligations.AddWithCarry := fun o a16 a24 v =>
  (adcForms_run o a16 a24 v).decimalChecked (adcForms_encoded o a16 a24 v) fun opcode x s => by
    simp only [← State.setAlu_addWithCarry]
    rfl

/-- Settles O28: the two cases of D, and the update is R252's for an operand of the width. -/
theorem subtractWithBorrow : Obligations.SubtractWithBorrow := fun o a16 a24 v =>
  have h := (sbcForms_run o a16 a24 v).decimalChecked (sbcForms_encoded o a16 a24 v) fun _ _ _ => rfl
  ⟨readThen_of_fits h.1 (fun _ _ _ _ => rfl) (fun _ _ hread => hread.wM_eq) fun _ _ => State.setAlu_subWithBorrow, h.2⟩

/-! ### Compares (R253-R255) -/

theorem State.compare_eq_compared {w : Width} {m : Word} (hm : m.toNat < modulus w) (a : Word) (s : State) :
    { s with p := s.p.compare a m w } = compared w a m s := by
  rw [Flags.compare, Flags.setNZ_eq_nz, trunc_sub a hm]
  rfl

/-- Forms whose operation compares a register's view, of width `w`, with the operand. -/
theorem FormsRun.readThen_compare {forms : List (Form Operand)} {op : Operand → State → Res Unit} {w : State → Width}
    {register : State → Word} (hrun : FormsRun forms op) (henc : FormsEncoded forms)
    (hacc : ∀ f ∈ forms, ∀ s, f.operand = .acc → w s = s.wM) (hw : ∀ s t, ReadOnly s t → w t = w s)
    (hop : ∀ x s, op x s = (getValue x (w s) s).bind fun m t =>
      .ok () { t with p := t.p.compare (register t) m (w t) }) :
    ReadThen forms w (fun _ => True) fun m s => compared (w s) (register s) m s :=
  readThen_of_fits (hrun.readThen henc fun x s _ => hop x s) hacc hw fun _ s hm => State.compare_eq_compared hm (register s) s

/-- Settles O30: each form runs its compare, and the flags are those of the difference for an operand of the width. -/
theorem comparesSetTheFlags : Obligations.ComparesSetTheFlags := fun o a16 a24 v => by
  simp only [← State.getA_eq_viewA, ← State.getX_eq_viewX, ← State.getY_eq_viewY]
  exact ⟨(cmpForms_run o a16 a24 v).readThen_compare (cmpForms_encoded o a16 a24 v) (fun _ _ _ _ => rfl)
      (fun _ _ hread => hread.wM_eq) fun _ _ => rfl,
    (cpxForms_run o a16 v).readThen_compare (cpxForms_encoded o a16 v)
      (fun f hf _ hacc => absurd hacc (cpxForms_operand_ne_acc o a16 v f hf)) (fun _ _ hread => hread.wX_eq) fun _ _ => rfl,
    (cpyForms_run o a16 v).readThen_compare (cpyForms_encoded o a16 v)
      (fun f hf _ hacc => absurd hacc (cpyForms_operand_ne_acc o a16 v f hf)) (fun _ _ hread => hread.wX_eq) fun _ _ => rfl⟩

/-! ### AND, ORA, EOR (R262-R264) -/

theorem logicA_eq (f : Word → Word → Word) (x : Operand) (s : State) :
    logicA f x s = (getValue x s.wM s).bind fun m t =>
      .ok () (withNZ (widthOf t.p.m) (f (viewA t) m) (putA (f (viewA t) m) t)) := by
  simp only [logicA, State.setNZ_eq_withNZ, State.setA_eq_putA, State.getA_eq_viewA]
  rfl

/-- Settles O33: each form runs the logic operation of its instruction. -/
theorem logicWritesTheAccumulator : Obligations.LogicWritesTheAccumulator := fun o a16 a24 v =>
  ⟨(andForms_run o a16 a24 v).readThen (andForms_encoded o a16 a24 v) fun x s _ => logicA_eq _ x s,
    (oraForms_run o a16 a24 v).readThen (oraForms_encoded o a16 a24 v) fun x s _ => logicA_eq _ x s,
    (eorForms_run o a16 a24 v).readThen (eorForms_encoded o a16 a24 v) fun x s _ => logicA_eq _ x s⟩

/-! ### BIT (R265) -/

theorem State.testZ_eq_testedZ (s : State) (m : Word) : s.testZ m = { s with p := testedZ m s } := by
  rw [State.testZ, State.getA_eq_viewA]
  rfl

theorem belowSignBit_eq_getLsbD (w : Width) (v : Word) : belowSignBit w v = v.getLsbD (w.bits - 2) := by
  cases w <;> rfl

/-- What BIT with a memory operand leaves: Z, and N and V from the operand. -/
def bitTested (m : Word) (s : State) : State :=
  { s with p := { testedZ m s with n := m.getLsbD ((widthOf s.p.m).bits - 1), v := m.getLsbD ((widthOf s.p.m).bits - 2) } }

theorem bitMemory_eq (mode : MemMode) (s : State) :
    bitMemory mode s = (getValue (.mem mode) s.wM s).bind fun m t => .ok () (bitTested m t) := by
  simp only [bitMemory, State.testZ_eq_testedZ, signBit_eq_getLsbD, belowSignBit_eq_getLsbD]
  rfl

theorem bitImmediate_eq (v : Imm) (s : State) :
    bitImmediate v s = (getValue (.imm v) s.wM s).bind fun m t => .ok () { t with p := testedZ m t } := by
  simp only [bitImmediate, State.testZ_eq_testedZ]

/-- Memory forms as forms of any operand. -/
theorem FormsRun.readThen_mem {forms : List (Form MemMode)} {op : MemMode → State → Res Unit} {effect : Word → State → State}
    (hrun : FormsRun forms op) (henc : FormsEncoded forms)
    (hop : ∀ mode s, op mode s = (getValue (.mem mode) s.wM s).bind fun m t => .ok () (effect m t)) :
    ReadThen (forms.map fun f => ⟨f.opcode, f.instr, .mem f.operand⟩) State.wM (fun _ => True) effect := by
  refine FormsRun.readThen (op := fun x s => (getValue x s.wM s).bind fun m t => .ok () (effect m t)) ?_ ?_ fun _ _ _ => rfl
  all_goals
    intro g hg
    obtain ⟨f, hf, rfl⟩ := List.mem_map.1 hg
  · exact fun s => (hrun f hf s).trans (congrArg finish (hop f.operand s))
  · exact henc f hf

theorem bitImmM_readThen (v : Imm) :
    ReadThen [⟨0x89, .bitImmM v, .imm v⟩] State.wM (fun _ => True) fun m s => { s with p := testedZ m s } := by
  refine FormsRun.readThen (op := fun x s => (getValue x s.wM s).bind fun m t => .ok () { t with p := testedZ m t })
    (List.forall_mem_singleton.2 fun s => ?_) (List.forall_mem_singleton.2 rfl) fun _ _ _ => rfl
  exact congrArg finish (bitImmediate_eq v s)

/-- Settles O34: the memory forms and the immediate, each by its own operation. -/
theorem bitTests : Obligations.BitTests := fun o a16 v =>
  ⟨(bitMemForms_run o a16).readThen_mem (bitMemForms_encoded o a16) bitMemory_eq, bitImmM_readThen v⟩

/-! ### INX, INY, DEX, DEY (R258-R261) -/

section IndexSteps

variable (s : State) (delta : Word)

theorem State.stepX_eq : s.stepX delta = withNZ (widthOf s.p.x) (viewX s + delta) (putX (viewX s + delta) s) := by
  rw [← State.getX_eq_viewX]
  exact s.transferToX_eq (s.getX + delta)

theorem State.stepY_eq : s.stepY delta = withNZ (widthOf s.p.x) (viewY s + delta) (putY (viewY s + delta) s) := by
  rw [← State.getY_eq_viewY]
  exact s.transferToY_eq (s.getY + delta)

theorem add_ffff_eq_sub_one (v : Word) : v + 0xFFFF = v - 1 := (BitVec.sub_eq_add_neg v 1).symm

theorem State.stepX_ffff : s.stepX 0xFFFF = withNZ (widthOf s.p.x) (viewX s - 1) (putX (viewX s - 1) s) := by
  rw [State.stepX_eq, add_ffff_eq_sub_one]

theorem State.stepY_ffff : s.stepY 0xFFFF = withNZ (widthOf s.p.x) (viewY s - 1) (putY (viewY s - 1) s) := by
  rw [State.stepY_eq, add_ffff_eq_sub_one]

end IndexSteps

/-- Settles O31: a step of an index register is a transfer of the stepped value; DEX and DEY add 2^16 - 1. -/
theorem indexModifications : Obligations.IndexModifications := fun s =>
  ⟨⟨rfl, congrArg _ (s.stepX_eq 1)⟩, ⟨rfl, congrArg _ (s.stepY_eq 1)⟩, ⟨rfl, congrArg _ s.stepX_ffff⟩,
    ⟨rfl, congrArg _ s.stepY_ffff⟩⟩

end Sys2Proof.Machine
end

section
/-! PROOFS. Read-modify-write (R256, R257, R266-R271, R276): every modifying instruction as one operation in the words of the rules,
then what that operation does on memory and on the accumulator. -/

namespace Sys2Proof.Machine

open Sys2Proof.Claims

/-! ### The shape of R276 -/

/-- A read-modify-write at wM: the flags `before` from the old value ahead of the write, and N and Z of the new value after it
where `setsNZ`. -/
def modifyBy (new : Width → Word → State → Word) (before : Width → Word → State → Flags) (setsNZ : Bool) (dst : Dest)
    (s : State) : Res Unit :=
  readModifyWrite dst s.wM (fun v t => { t with p := before s.wM v t }) (new s.wM)
    (fun v t => if setsNZ then withNZ s.wM v t else t) s

theorem Res.bind_congr {α β : Type} {r : Res α} {f g : α → State → Res β}
    (h : ∀ v t, r = .ok v t → f v t = g v t) : r.bind f = r.bind g := by
  cases r with
  | ok v t => exact h v t rfl
  | raise e t => rfl

/-- A raise of a composed operation is a raise of any other composition that raises where the second part does. -/
theorem Res.bind_raise_mono {α β γ : Type} {r : Res α} {f : α → State → Res β} {g : α → State → Res γ} {e : Fault} {t : State}
    (hraise : r.bind f = .raise e t) (h : ∀ v s, r = .ok v s → f v s = .raise e t → g v s = .raise e t) :
    r.bind g = .raise e t := by
  cases r with
  | ok v s => exact h v s rfl hraise
  | raise e' s =>
    cases hraise
    rfl

/-- The old value fits its width (R153), so the parts of a read-modify-write need agree for such values only. -/
theorem readModifyWrite_congr {dst : Dest} {s : State} {pre pre' post post' : Word → State → State}
    {new new' : Word → State → Word} (hpre : ∀ v t, v.toNat < modulus s.wM → pre v t = pre' v t)
    (hnew : ∀ v t, v.toNat < modulus s.wM → new v t = new' v t) (hpost : ∀ v t, post v t = post' v t) :
    readModifyWrite dst s.wM pre new post s = readModifyWrite dst s.wM pre' new' post' s := by
  obtain rfl : post = post' := funext₂ hpost
  cases dst with
  | acc =>
    have hfits := s.getA_lt
    simp only [readModifyWrite, hpre _ _ hfits, hnew _ _ hfits]
  | mem mode =>
    refine Res.bind_congr fun ea s1 _ => Res.bind_congr fun v s2 hread => ?_
    have hfits := readAt_lt hread
    dsimp only
    rw [hpre v s2 hfits, hnew v s2 hfits]

/-- Memory forms whose operation is a read-modify-write of R276. -/
theorem FormsRun.modifies {forms : List (Form MemMode)} {op : MemMode → State → Res Unit} {new : Width → Word → State → Word}
    {before : Width → Word → State → Flags} {setsNZ : Bool} (hrun : FormsRun forms op) (henc : FormsEncoded forms)
    (hop : ∀ mode s, op mode s = modifyBy new before setsNZ (.mem mode) s) : Modifies forms new before setsNZ := by
  intro f hf
  refine ⟨henc f hf, fun s => ?_⟩
  rw [hrun f hf s, hop]
  constructor
  · intro ea s1 v s2 t hea hread hwrite
    apply finish_of_ok
    rw [modifyBy, readModifyWrite, hea, Res.ok_bind, hread, Res.ok_bind]
    dsimp only
    rw [hwrite, Res.ok_bind]
  · intro e t hraise
    apply finish_of_raise
    refine Res.bind_raise_mono hraise fun ea s1 _ hraise1 => Res.bind_raise_mono hraise1 fun v s2 _ hwrite => ?_
    dsimp only
    rw [hwrite, Res.raise_bind]

theorem finish_modifyBy_acc (new : Width → Word → State → Word) (before : Width → Word → State → Flags) (s : State) :
    finish (modifyBy new before true .acc s) =
      .next (accResult (new s.wM (viewA s) s) (before s.wM (viewA s) s) s) := by
  rw [← State.getA_eq_viewA, modifyBy, readModifyWrite, State.setA_eq_putA]
  rfl

/-! ### INC and DEC (R256, R257) -/

theorem trunc_add_one (w : Width) (v : Word) : trunc w (v + 1) = wrapped w (v.toNat + 1) := by
  apply trunc_eq_wrapped
  rw [← ofNat_toNat_add_one, BitVec.toNat_ofNat]
  cases w <;> simp only [modulus_w8, modulus_w16] <;> omega

theorem trunc_sub_one (w : Width) (v : Word) : trunc w (v - 1) = wrapped w (v.toNat + (modulus w - 1)) := by
  have hone : (1 : Word).toNat = 1 := rfl
  have hlt : (1 : Word).toNat < modulus w := by cases w <;> decide
  rw [trunc_sub v hlt, hone, Nat.add_sub_assoc (modulus_pos w)]

theorem modifyNZ_eq (dst : Dest) (new : Word → Word) (s : State) :
    modifyNZ dst new s = modifyBy (fun w v _ => trunc w (new v)) (fun _ _ t => t.p) true dst s := by
  simp only [modifyNZ, State.setNZ_eq_withNZ]
  rfl

theorem increment_eq (dst : Dest) (s : State) :
    increment dst s = modifyBy (fun w v _ => wrapped w (v.toNat + 1)) (fun _ _ t => t.p) true dst s := by
  simp only [increment, modifyNZ_eq, trunc_add_one]

theorem decrement_eq (dst : Dest) (s : State) :
    decrement dst s = modifyBy (fun w v _ => wrapped w (v.toNat + (modulus w - 1))) (fun _ _ t => t.p) true dst s := by
  simp only [decrement, modifyNZ_eq, trunc_sub_one]

/-! ### Shifts and rotates (R268-R271) -/

theorem shiftLeft_eq_shiftedLeft (w : Width) (v : Word) (cin : Bool) : shiftLeft w v cin = shiftedLeft cin w v := by
  have hcin : (zext8 (BitVec.ofNat 8 cin.toNat)).toNat = cin.toNat := by
    cases cin <;> rfl
  have hshift : v.toNat <<< 1 % 2 ^ 16 = (v.toNat % 2 ^ 15) <<< 1 := by
    rw [Nat.shiftLeft_eq, Nat.shiftLeft_eq]
    omega
  apply trunc_eq_wrapped
  rw [BitVec.toNat_or, BitVec.toNat_shiftLeft, hcin, hshift, shiftLeft_or_toNat]
  cases w <;> simp only [modulus_w8, modulus_w16] <;> omega

/-- The bit shifted in lies above the halved value. -/
theorem shiftRight_eq_shiftedRight {w : Width} {v : Word} (hv : v.toNat < modulus w) (cin : Bool) :
    shiftRight w v cin = shiftedRight cin w v := by
  have hcin : (BitVec.ofNat 16 cin.toNat <<< (w.bits - 1)).toNat = cin.toNat <<< (w.bits - 1) := by
    cases cin <;> cases w <;> rfl
  have hhalf : v.toNat / 2 < 2 ^ (w.bits - 1) := by
    cases w <;> simp only [modulus_w8, modulus_w16, Width.bits] at hv ⊢ <;> omega
  apply BitVec.eq_of_toNat_eq
  rw [shiftRight, shiftedRight, BitVec.toNat_or, BitVec.toNat_ushiftRight, Nat.shiftRight_eq_div_pow, pow_one, hcin,
    Nat.or_comm, ← Nat.shiftLeft_add_eq_or_of_lt hhalf, Nat.shiftLeft_eq, BitVec.toNat_ofNat]
  have hbit := Bool.toNat_lt cin
  cases w <;> simp only [modulus_w8, modulus_w16, Width.bits] at hv ⊢ <;> omega

theorem getLsbD_zero_eq_decide (v : Word) : v.getLsbD 0 = decide (v.toNat % 2 = 1) := by
  rw [← BitVec.testBit_toNat, Nat.testBit_zero]

theorem shiftLeftBy_eq (cin : State → Bool) (dst : Dest) (s : State) :
    shiftLeftBy cin dst s = modifyBy (fun w v t => shiftedLeft (cin t) w v) carryLeft true dst s :=
  readModifyWrite_congr (fun v t hv => by rw [signBit_of_lt hv, carryLeft])
    (fun v t _ => shiftLeft_eq_shiftedLeft s.wM v (cin t)) fun v t => t.setNZ_eq_withNZ v s.wM

theorem shiftRightBy_eq (cin : State → Bool) (dst : Dest) (s : State) :
    shiftRightBy cin dst s = modifyBy (fun w v t => shiftedRight (cin t) w v) carryRight true dst s :=
  readModifyWrite_congr (fun v t _ => by rw [getLsbD_zero_eq_decide, carryRight])
    (fun _ t hv => shiftRight_eq_shiftedRight hv (cin t)) fun v t => t.setNZ_eq_withNZ v s.wM

/-! ### TSB and TRB (R266, R267) -/

theorem testAndModify_eq (f : Word → Word → Word) (mode : MemMode) (s : State) :
    testAndModify f mode s = modifyBy (fun _ v t => f v (viewA t)) (fun _ v t => testedZ v t) false (.mem mode) s :=
  readModifyWrite_congr (fun v t _ => t.testZ_eq_testedZ v) (fun _ t _ => by rw [t.getA_eq_viewA]) fun _ _ => rfl

/-! ### The forms -/

section ModifyForms

variable (o : Byte) (a16 : Word)

theorem incMemForms_encoded : FormsEncoded (incMemForms o a16) := fun f hf => by
  fin_cases hf <;> rfl

theorem decMemForms_encoded : FormsEncoded (decMemForms o a16) := fun f hf => by
  fin_cases hf <;> rfl

theorem aslMemForms_encoded : FormsEncoded (aslMemForms o a16) := fun f hf => by
  fin_cases hf <;> rfl

theorem lsrMemForms_encoded : FormsEncoded (lsrMemForms o a16) := fun f hf => by
  fin_cases hf <;> rfl

theorem rolMemForms_encoded : FormsEncoded (rolMemForms o a16) := fun f hf => by
  fin_cases hf <;> rfl

theorem rorMemForms_encoded : FormsEncoded (rorMemForms o a16) := fun f hf => by
  fin_cases hf <;> rfl

theorem tsbMemForms_encoded : FormsEncoded (tsbMemForms o a16) := fun f hf => by
  fin_cases hf <;> rfl

theorem trbMemForms_encoded : FormsEncoded (trbMemForms o a16) := fun f hf => by
  fin_cases hf <;> rfl

end ModifyForms

/-- An accumulator form, which runs a read-modify-write of R276 on A. -/
theorem exec_acc_of_modifyBy {i : Instr} {op : Dest → State → Res Unit} {new : Width → Word → State → Word}
    {before : Width → Word → State → Flags} (hop : ∀ dst s, op dst s = modifyBy new before true dst s) {s : State}
    (hrun : exec i s = finish (op .acc s)) :
    exec i s = .next (accResult (new s.wM (viewA s) s) (before s.wM (viewA s) s) s) := by
  rw [hrun, hop, finish_modifyBy_acc]

/-- Settles O32: each instruction is a read-modify-write of R276, on memory and on the accumulator. -/
theorem modifyingInstructions : Obligations.ModifyingInstructions :=
  ⟨fun o a16 =>
    ⟨(incMemForms_run o a16).modifies (incMemForms_encoded o a16) fun mode => increment_eq (.mem mode),
      (decMemForms_run o a16).modifies (decMemForms_encoded o a16) fun mode => decrement_eq (.mem mode),
      (aslMemForms_run o a16).modifies (aslMemForms_encoded o a16) fun mode => shiftLeftBy_eq _ (.mem mode),
      (lsrMemForms_run o a16).modifies (lsrMemForms_encoded o a16) fun mode => shiftRightBy_eq _ (.mem mode),
      (rolMemForms_run o a16).modifies (rolMemForms_encoded o a16) fun mode => shiftLeftBy_eq _ (.mem mode),
      (rorMemForms_run o a16).modifies (rorMemForms_encoded o a16) fun mode => shiftRightBy_eq _ (.mem mode),
      (tsbMemForms_run o a16).modifies (tsbMemForms_encoded o a16) (testAndModify_eq _),
      (trbMemForms_run o a16).modifies (trbMemForms_encoded o a16) (testAndModify_eq _)⟩,
    fun _ =>
      ⟨⟨rfl, exec_acc_of_modifyBy increment_eq rfl⟩, ⟨rfl, exec_acc_of_modifyBy decrement_eq rfl⟩,
        ⟨rfl, exec_acc_of_modifyBy (shiftLeftBy_eq fun _ => false) rfl⟩,
        ⟨rfl, exec_acc_of_modifyBy (shiftRightBy_eq fun _ => false) rfl⟩,
        ⟨rfl, exec_acc_of_modifyBy (shiftLeftBy_eq fun t => t.p.c) rfl⟩,
        ⟨rfl, exec_acc_of_modifyBy (shiftRightBy_eq fun t => t.p.c) rfl⟩⟩⟩

end Sys2Proof.Machine
end

section
/-! PROOFS. Control transfer (R300-R316): branches and jumps, the accesses of a call and of a return, and the round trip of a call and
its return with the stack in WRAM. -/

namespace Sys2Proof.Machine

open Sys2Proof.Claims

/-! ### An instruction that is one operation -/

theorem runs_of_exec {i : Instr} {s : State} {r : Res Unit} (h : exec i s = finish r) : Runs r i s :=
  ⟨fun _ hr => h.trans (finish_of_ok hr), fun _ _ hr => h.trans (finish_of_raise hr)⟩

/-! ### Branches (R301-R308) -/

theorem State.branchIf_rel8Target (s : State) (taken : Bool) (r : Byte) :
    s.branchIf taken (rel8Target r s) = if taken then { s with pc := s.pc + r.signExtend 16 } else s := by
  cases taken <;> rfl

/-! ### Targets read through a pointer (R178-R180) -/

section Targets

variable {α : Type} (a16 : Word) (s : State)

theorem absIndTarget_bind (f : Word → State → Res α) :
    (absIndTarget a16 s).bind f = (readN ⟨mkAddr 0 a16, .bank 0⟩ 2 s).bind fun p t => f (offOf p) t :=
  Res.bind_assoc _ _ f

theorem absIndXTarget_bind (f : Word → State → Res α) :
    (absIndXTarget a16 s).bind f =
      (readN ⟨mkAddr s.k (a16 + viewX s), .bank s.k⟩ 2 s).bind fun p t => f (offOf p) t := by
  rw [← s.getX_eq_viewX]
  exact Res.bind_assoc _ _ f

end Targets

/-- Settles O35: a branch moves PC where its condition holds, and a jump through a pointer is the pointer read and then the jump. -/
theorem branchesAndJumps : Obligations.BranchesAndJumps := by
  intro r r16 a16 a24 s goes
  have branch (taken : Bool) : Host.Outcome.next (s.branchIf taken (rel8Target r s)) = goes taken :=
    congrArg _ (s.branchIf_rel8Target taken r)
  exact ⟨⟨rfl, branch (!s.p.n)⟩, ⟨rfl, branch s.p.n⟩, ⟨rfl, branch (!s.p.v)⟩, ⟨rfl, branch s.p.v⟩, ⟨rfl, branch (!s.p.c)⟩,
    ⟨rfl, branch s.p.c⟩, ⟨rfl, branch (!s.p.z)⟩, ⟨rfl, branch s.p.z⟩, ⟨rfl, rfl⟩, ⟨rfl, rfl⟩, ⟨rfl, rfl⟩,
    ⟨rfl, runs_of_exec (congrArg finish (absIndTarget_bind a16 s _))⟩,
    ⟨rfl, runs_of_exec (congrArg finish (absIndXTarget_bind a16 s _))⟩, ⟨rfl, rfl⟩, ⟨rfl, runs_of_exec rfl⟩⟩

/-! ### Calls and returns (R313-R316) -/

section Calls

variable (a16 : Word) (a24 : Addr) (s : State)

theorem jsrAbsJ_runs : Runs ((push16 (s.pc - 1) s).bind fun _ t => .ok () { t with pc := a16 }) (.jsrAbsJ a16) s :=
  runs_of_exec rfl

theorem jsrAbsIndX_runs : Runs ((push16 (s.pc - 1) s).bind fun _ t =>
    (readN ⟨mkAddr t.k (a16 + viewX t), .bank t.k⟩ 2 t).bind fun p u => .ok () { u with pc := offOf p })
    (.jsrAbsIndX a16) s :=
  runs_of_exec (congrArg finish (Res.bind_congr fun _ t _ => absIndXTarget_bind a16 t _))

theorem jsl_runs : Runs ((push8 s.k s).bind fun _ t => (push16 (s.pc - 1) t).bind fun _ u =>
    .ok () { u with k := bankOf a24, pc := offOf a24 }) (.jsl a24) s :=
  runs_of_exec rfl

theorem rts_runs : Runs ((pop16 s).bind fun r t => .ok () { t with pc := r + 1 }) .rts s := runs_of_exec rfl

theorem rtl_runs :
    Runs ((pop16 s).bind fun r t => (pop8 t).bind fun k u => .ok () { u with k := k, pc := r + 1 }) .rtl s :=
  runs_of_exec rfl

end Calls

/-- Settles O36: each call and return is its accesses in order, with the pointer of the indexed JSR read after the push. -/
theorem callsAndReturns : Obligations.CallsAndReturns := fun a16 a24 s =>
  ⟨⟨rfl, jsrAbsJ_runs a16 s⟩, ⟨rfl, jsrAbsIndX_runs a16 s⟩, ⟨rfl, jsl_runs a24 s⟩, ⟨rfl, rts_runs s⟩, ⟨rfl, rtl_runs s⟩⟩

/-! ### Bytes pushed on a stack in WRAM -/

/-- The state after a byte is pushed on a stack in WRAM. -/
def State.withPushedByte (s : State) (b : Byte) : State :=
  { s with sp := pinned s.e (s.sp - 1), mdr := b, wram := s.wram.write s.sp.toNat b }

section Stacked

variable {s : State}

theorem withPushedByte_wf (b : Byte) (hwf : s.wram.wf = true) : (s.withPushedByte b).wram.wf = true :=
  Memory.wf_write _ _ _ hwf

/-- A word pulled where WRAM, S and E are as the push of a word left them is that word, and S is as before the push. -/
theorem pop16_of_withPushedWord {t : State} {v : Word} (hwf : s.wram.wf = true) (h : stackInWram s 2 = true)
    (hwram : t.wram = (s.withPushedWord v).wram) (hsp : t.sp = (s.withPushedWord v).sp) (he : t.e = s.e) :
    pop16 t = .ok v { t with sp := s.sp, mdr := hiByte v } := by
  have hbyte (off : Word) : stackByte t off = stackByte (s.withPushedWord v) off := congrArg (Memory.read · _) hwram
  have hlowPlace : pinned t.e (t.sp + 1) = pinned s.e (s.sp - 1) := by
    rw [he, hsp]
    exact withPushedWord_low_place v
  have hhighPlace : pinned t.e (t.sp + 2) = s.sp := by
    rw [he, hsp]
    exact withPushedWord_high_place v h
  rw [pop16_wram hlowPlace hhighPlace (stackInWram_le h (k := 1) (by decide)) (stackInWram_sp_le h), hbyte, hbyte,
    withPushedWord_high v h hwf, withPushedWord_low v hwf, mkWord_hiByte_loByte]

section UnderWord

variable {n : Nat} (b : Byte) (h : stackInWram s n = true)
include h

theorem sp_le_of_stackInWram (hn : 0 < n) : s.sp.toNat ≤ 0x1FFF := by
  simpa [pinned_sp_of_stackInWram h] using stackInWram_le h hn

theorem push8_withPushedByte (hn : 0 < n) : push8 b s = .ok () (s.withPushedByte b) :=
  push8_wram b (sp_le_of_stackInWram h hn)

/-- A pushed byte leaves one place fewer. -/
theorem stackInWram_withPushedByte (hn : 1 < n) : stackInWram (s.withPushedByte b) (n - 1) = true := by
  rcases stackInWram_cases h with ⟨he, -⟩ | ⟨he, hplaces, hsp⟩
  · simp [stackInWram, State.withPushedByte, he, pinned_true]
  · have hpred : (s.sp - 1).toNat = s.sp.toNat - 1 := by bv_omega
    simp only [stackInWram, State.withPushedByte, he, pinned_false, Bool.false_eq_true, if_false, decide_eq_true_eq, hpred]
    omega

/-- A word pushed after a byte leaves that byte: the three places are distinct. -/
theorem stackByte_under_pushedWord (v : Word) (hwf : s.wram.wf = true) :
    stackByte ((s.withPushedByte b).withPushedWord v) s.sp = b := by
  have hhigh := pinned_sub_ne s.e s.sp (j := 0) (k := 1) (by decide) (by decide)
  have hlow := pinned_sub_ne s.e s.sp (j := 0) (k := 2) (by decide) (by decide)
  rw [BitVec.sub_zero, pinned_sp_of_stackInWram h] at hhigh hlow
  have hlowPlace : pinned s.e (pinned s.e (s.sp - 1) - 1) = pinned s.e (s.sp - 2) := by
    rw [pinned_pinned_sub, BitVec.sub_sub]
    rfl
  calc stackByte ((s.withPushedByte b).withPushedWord v) s.sp
      = ((s.withPushedByte b).wram.write (pinned s.e (s.sp - 1)).toNat (hiByte v)).read s.sp.toNat :=
        Memory.read_write_other _ _ _ _ fun heq => hlow (hlowPlace.symm.trans (BitVec.eq_of_toNat_eq heq.symm))
    _ = (s.withPushedByte b).wram.read s.sp.toNat :=
        Memory.read_write_other _ _ _ _ fun heq => hhigh (BitVec.eq_of_toNat_eq heq.symm)
    _ = b := Memory.read_write_same _ _ _ hwf

/-- The pull after a word is pulled off a byte gives that byte, and S is as before the byte was pushed. -/
theorem pop8_under_pushedWord {t : State} {v : Word} (hn : 0 < n) (hwf : s.wram.wf = true)
    (hwram : t.wram = ((s.withPushedByte b).withPushedWord v).wram) (hsp : t.sp = (s.withPushedByte b).sp)
    (he : t.e = s.e) : pop8 t = .ok b { t with sp := s.sp, mdr := b } := by
  have hplace : pinned t.e (t.sp + 1) = s.sp := by
    rw [he, hsp, State.withPushedByte, pinned_pinned_add, BitVec.sub_add_cancel, pinned_sp_of_stackInWram h]
  have hbyte : stackByte t s.sp = b :=
    (congrArg (Memory.read · _) hwram).trans (stackByte_under_pushedWord b h v hwf)
  rw [pop8_wram (hplace ▸ sp_le_of_stackInWram h hn), hplace, hbyte]

end UnderWord

end Stacked

/-! ### A return undoes its call -/

theorem exec_jsrAbsJ_wram (a16 : Word) {s : State} (h : stackInWram s 2 = true) :
    exec (.jsrAbsJ a16) s = .next ((s.withPushedWord (s.pc - 1)).jump a16) := by
  apply (jsrAbsJ_runs a16 s).1
  rw [push16_wram _ h]
  rfl

theorem exec_jsl_wram (a24 : Addr) {s : State} (h : stackInWram s 3 = true) :
    exec (.jsl a24) s = .next (((s.withPushedByte s.k).withPushedWord (s.pc - 1)).jumpLong a24) := by
  apply (jsl_runs a24 s).1
  rw [push8_withPushedByte _ h (by decide), Res.ok_bind, push16_wram _ (stackInWram_withPushedByte _ h (by decide))]
  rfl

theorem exec_rts_of_pop16 {s t : State} {r : Word} (h : pop16 s = .ok r t) : exec .rts s = .next (t.jump (r + 1)) := by
  apply (rts_runs s).1
  rw [h]
  rfl

theorem exec_rtl_of_pops {s t u : State} {r : Word} {k : Byte} (hr : pop16 s = .ok r t) (hk : pop8 t = .ok k u) :
    exec .rtl s = .next { u with k := k, pc := r + 1 } := by
  apply (rtl_runs s).1
  rw [hr, Res.ok_bind, hk, Res.ok_bind]

/-- RTS pulls the word that JSR pushed. -/
theorem rts_undoes_jsr (a16 : Word) {s : State} (hwf : s.wram.wf = true) (h : stackInWram s 2 = true) :
    ∃ t u, exec (.jsrAbsJ a16) s = .next t ∧ t.pc = a16 ∧ exec .rts t = .next u ∧ u.pc = s.pc ∧ u.k = s.k ∧ u.sp = s.sp :=
  ⟨_, _, exec_jsrAbsJ_wram a16 h, rfl, exec_rts_of_pop16 (pop16_of_withPushedWord hwf h rfl rfl rfl),
    BitVec.sub_add_cancel s.pc 1, rfl, rfl⟩

/-- RTL pulls the word that JSL pushed last, and then K from the place that S had before the call. -/
theorem rtl_undoes_jsl (a24 : Addr) {s : State} (hwf : s.wram.wf = true) (h : stackInWram s 3 = true) :
    ∃ t u, exec (.jsl a24) s = .next t ∧ t.k = bankOf a24 ∧ t.pc = offOf a24 ∧
      exec .rtl t = .next u ∧ u.pc = s.pc ∧ u.k = s.k ∧ u.sp = s.sp := by
  have hword := pop16_of_withPushedWord (t := ((s.withPushedByte s.k).withPushedWord (s.pc - 1)).jumpLong a24)
    (withPushedByte_wf s.k hwf) (stackInWram_withPushedByte s.k h (by decide)) rfl rfl rfl
  have hreturn := exec_rtl_of_pops hword
    (pop8_under_pushedWord s.k h (v := s.pc - 1) (by decide) hwf rfl rfl rfl)
  exact ⟨_, _, exec_jsl_wram a24 h, rfl, rfl, hreturn, BitVec.sub_add_cancel s.pc 1, rfl, rfl⟩

/-- Settles O37: both calls push in WRAM, where the return finds the bytes as pushed. -/
theorem returnsUndoCalls : Obligations.ReturnsUndoCalls := by
  intro a16 a24 s hs
  obtain ⟨⟨hwf, -⟩, -⟩ := (memoriesOk_iff s).1 hs
  exact ⟨rts_undoes_jsr a16 hwf, rtl_undoes_jsl a24 hwf⟩

end Sys2Proof.Machine
end

section
/-! PROOFS. Stack, flag and system instructions (R340-R355, R360-R370, R380-R386): each as its stack accesses and its update in the
words of the rules, and taking an exception as R421 says it. -/

namespace Sys2Proof.Machine

open Sys2Proof.Claims

/-! ### Pushes (R340-R349) -/

/-- A push at the width that a flag selects (R23). -/
theorem pushAt_of_flag (flag : Bool) (v : Word) (s : State) :
    pushAt (if flag then .w8 else .w16) v s = if flag then push8 (v.setWidth 8) s else push16 v s := by
  cases flag <;> rfl

theorem pushIndirect_eq (o : Byte) (s : State) :
    pushIndirect o s = (readN (dpAddr (o.setWidth 16) s) 2 s).bind fun p t => push16 (offOf p) t :=
  Res.bind_assoc _ _ _

/-- Settles O38: each instruction is one push, at the width of M or X where it pushes A, X or Y. -/
theorem pushesPushTheValue : Obligations.PushesPushTheValue := by
  intro v r16 o s at8
  have pushAtFlag (flag : Bool) (r : Word) : finish (pushAt (if flag then .w8 else .w16) r s) = finish (at8 flag r) :=
    congrArg finish (pushAt_of_flag flag r s)
  exact ⟨⟨rfl, runs_of_exec (pushAtFlag s.p.m s.a)⟩, ⟨rfl, runs_of_exec (pushAtFlag s.p.x s.x)⟩,
    ⟨rfl, runs_of_exec (pushAtFlag s.p.x s.y)⟩, ⟨rfl, runs_of_exec rfl⟩, ⟨rfl, runs_of_exec rfl⟩, ⟨rfl, runs_of_exec rfl⟩,
    ⟨rfl, runs_of_exec rfl⟩, ⟨rfl, runs_of_exec rfl⟩, ⟨rfl, runs_of_exec (congrArg finish (pushIndirect_eq o s))⟩,
    ⟨rfl, runs_of_exec rfl⟩⟩

/-! ### Pulls (R350-R355) -/

/-- A pull at the width that a flag selects (R23). -/
theorem popAt_of_flag (flag : Bool) (s : State) :
    popAt (if flag then .w8 else .w16) s =
      if flag then (pop8 s).bind fun b t => .ok (b.setWidth 16) t else pop16 s := by
  cases flag <;> rfl

section Pulls

variable (s : State)

/-- The width of N and Z may be taken before the pull: a pull changes neither M nor X. -/
theorem popAt_bind_setNZ (w : State → Width) {put put' : Word → State → State} (hput : ∀ v t, put v t = put' v t)
    (hw : ∀ t, StackOnly s t → w t = w s) :
    ((popAt (w s) s).bind fun v t => .ok () ((put v t).setNZ v (w t))) =
      (popAt (w s) s).bind fun v t => .ok () (withNZ (w s) v (put' v t)) := by
  refine Res.bind_congr fun v t hpop => ?_
  rw [State.setNZ_eq_withNZ, hput, hw t ((popAt_stackOnly _ s).of_ok hpop)]

theorem pullA_eq : pullA s = (popAt s.wM s).bind fun v t => .ok () (withNZ s.wM v (putA v t)) :=
  popAt_bind_setNZ s State.wM (fun v t => t.setA_eq_putA v) fun _ h => h.wM_eq

theorem pullX_eq : pullX s = (popAt s.wX s).bind fun v t => .ok () (withNZ s.wX v (putX v t)) :=
  popAt_bind_setNZ s State.wX (fun v t => t.setX_eq_putX v) fun _ h => h.wX_eq

theorem pullY_eq : pullY s = (popAt s.wX s).bind fun v t => .ok () (withNZ s.wX v (putY v t)) :=
  popAt_bind_setNZ s State.wX (fun v t => t.setY_eq_putY v) fun _ h => h.wX_eq

theorem pullDbr_eq :
    pullDbr s = (pop8 s).bind fun v t => .ok () (withNZ .w8 (v.setWidth 16) { t with dbr := v }) :=
  Res.bind_congr fun v t _ => congrArg (Res.ok ()) (State.setNZ_eq_withNZ { t with dbr := v } (v.setWidth 16) .w8)

theorem pullD_eq : pullD s = (pop16 s).bind fun v t => .ok () (withNZ .w16 v { t with d := v }) :=
  Res.bind_congr fun v t _ => congrArg (Res.ok ()) (State.setNZ_eq_withNZ { t with d := v } v .w16)

theorem pullP_eq : ((pop8 s).bind fun v t => .ok () (t.writeP v)) = (pop8 s).bind fun v t => .ok () (statusWritten v t) :=
  Res.bind_congr fun v t _ => congrArg (Res.ok ()) (t.writeP_eq_statusWritten v)

end Pulls

/-- Settles O39: each instruction is its pull and then the write of its register, with N and Z or through `WriteP`. -/
theorem pullsWriteTheRegister : Obligations.PullsWriteTheRegister := by
  intro s at8
  have popAtFlag (flag : Bool) (f : Word → State → Res Unit) :
      (popAt (if flag then .w8 else .w16) s).bind f = (at8 flag).bind f :=
    congrArg (Res.bind · f) (popAt_of_flag flag s)
  exact ⟨⟨rfl, runs_of_exec (congrArg finish ((pullA_eq s).trans (popAtFlag s.p.m _)))⟩,
    ⟨rfl, runs_of_exec (congrArg finish ((pullX_eq s).trans (popAtFlag s.p.x _)))⟩,
    ⟨rfl, runs_of_exec (congrArg finish ((pullY_eq s).trans (popAtFlag s.p.x _)))⟩,
    ⟨rfl, runs_of_exec (congrArg finish (pullP_eq s))⟩, ⟨rfl, runs_of_exec (congrArg finish (pullDbr_eq s))⟩,
    ⟨rfl, runs_of_exec (congrArg finish (pullD_eq s))⟩⟩

/-! ### Flags (R360-R370) and WAI, STP, NOP, WDM (R383-R386) -/

/-- Settles O40, instruction by instruction: each meaning is the update that the rule states. -/
theorem flagAndWaitInstructions : Obligations.FlagAndWaitInstructions := fun _ _ =>
  ⟨⟨rfl, rfl⟩, ⟨rfl, rfl⟩, ⟨rfl, rfl⟩, ⟨rfl, rfl⟩, ⟨rfl, rfl⟩, ⟨rfl, rfl⟩, ⟨rfl, rfl⟩, ⟨rfl, rfl⟩, ⟨rfl, rfl⟩, ⟨rfl, rfl⟩,
    ⟨rfl, rfl⟩⟩

/-- Settles O41: both instructions are one `WriteP` of the masked P. -/
theorem repAndSepWriteP : Obligations.RepAndSepWriteP := fun mask s =>
  ⟨⟨rfl, congrArg _ (s.writeP_eq_statusWritten (s.p.toByte &&& ~~~mask))⟩,
    ⟨rfl, congrArg _ (s.writeP_eq_statusWritten (s.p.toByte ||| mask))⟩⟩

theorem State.enterEmulation_eq (s : State) : s.enterEmulation =
    { s with e := true, p := { s.p with m := true, x := true }
             x := s.x &&& 0x00FF, y := s.y &&& 0x00FF, sp := 0x0100 ||| (s.sp &&& 0x00FF) } := by
  rw [← zext8_loByte_eq_and, ← zext8_loByte_eq_and, ← mkWord_one_loByte]
  rfl

theorem State.exchangeCE_of_carry_clear {s : State} (hc : s.p.c = false) :
    s.exchangeCE = { s with e := false, p := { s.p with c := s.e } } := by
  unfold State.exchangeCE
  rw [hc]
  rfl

theorem State.exchangeCE_of_carry_set {s : State} (hc : s.p.c = true) :
    s.exchangeCE = { s with p := { s.p with c := s.e }, e := true }.enterEmulation := by
  unfold State.exchangeCE
  rw [hc]
  rfl

/-- Settles O42: C decides which mode is entered, and entering emulation forces the widths. -/
theorem xceExchangesCarryAndEmulation : Obligations.XceExchangesCarryAndEmulation := fun _ =>
  ⟨rfl, fun hc => congrArg _ (State.exchangeCE_of_carry_clear hc),
    fun hc => congrArg _ ((State.exchangeCE_of_carry_set hc).trans (State.enterEmulation_eq _))⟩

/-! ### Taking an exception and returning (R380-R382, R421, R425) -/

theorem VectorTable.vector_eq_entryVector (vt : VectorTable) (k : IntKind) (e : Bool) :
    vt.vector k e = entryVector vt k e := by
  cases k <;> rfl

theorem pushedP_eq_breakBit (k : IntKind) (s : State) :
    pushedP k s = if s.e then { s.p with x := breakBit k }.toByte else s.p.toByte := by
  cases k <;> rfl

/-- `Enter(k)` may take its values from the state before it: its pushes change none of them. -/
theorem enter_eq_entered (k : IntKind) (s : State) : enter k s = entered k s := by
  unfold enter entered
  refine Res.bind_congr fun _ s1 h1 => ?_
  have hbank := (enter_pushes s).of_ok h1
  rw [hbank.pc_eq]
  refine Res.bind_congr fun _ s2 h2 => ?_
  have hpc := hbank.trans ((push16_stackOnly _ s1).of_ok h2)
  rw [pushedP_eq_breakBit, hpc.e_eq, hpc.p_eq]
  refine Res.bind_congr fun _ s3 h3 => ?_
  have hstatus := hpc.trans ((push8_stackOnly _ s2).of_ok h3)
  rw [State.vectorTo, VectorTable.vector_eq_entryVector, hstatus.p_eq, hstatus.vt_eq, hstatus.e_eq]

/-- Whether K is pulled may be decided before the pulls: neither they nor `WriteP` change E. -/
theorem returnFromInterrupt_eq (s : State) : returnFromInterrupt s =
    (pop8 s).bind fun p s1 => (pop16 (statusWritten p s1)).bind fun pc s2 =>
      if s.e then .ok () { s2 with pc := pc } else (pop8 { s2 with pc := pc }).bind fun k s3 => .ok () { s3 with k := k } := by
  refine Res.bind_congr fun p s1 h1 => ?_
  rw [State.writeP_eq_statusWritten]
  refine Res.bind_congr fun pc s2 h2 => ?_
  have he : s2.e = s.e := ((pop16_stackOnly _).of_ok h2).e_eq.trans ((pop8_stackOnly s).of_ok h1).e_eq
  dsimp only
  rw [he]

/-- Settles O43: BRK and COP are an entry, and RTI is the return from one. -/
theorem trapsAndReturnFromInterrupt : Obligations.TrapsAndReturnFromInterrupt := fun _ s =>
  ⟨⟨rfl, runs_of_exec (congrArg finish (enter_eq_entered .brk s))⟩,
    ⟨rfl, runs_of_exec (congrArg finish (enter_eq_entered .cop s))⟩,
    ⟨rfl, runs_of_exec (congrArg finish (returnFromInterrupt_eq s))⟩⟩

end Sys2Proof.Machine
end

section
/-! PROOFS. The fatal conditions (R440-R442): what a bus access can raise, and what an instruction, a dispatch and a step can
record. -/

namespace Sys2Proof.Machine

open Sys2Proof.Claims

/-! ### The faults of a bus access (R442) -/

/-- A fatal condition that a bus access raises (R442, R453, R455), recording `at_` as the address of the opcode. -/
inductive BusFault (at_ : Addr) : Fault → Prop where
  | cart {a : Addr} (acc : Access) (h : decodeAddr a = .cart a) : BusFault at_ (.cartUnsupported a acc at_)
  | dmaPattern {n : Nat} {ctl : Byte} (hn : n < 8) (h : 4 < ctl.toNat % 8) : BusFault at_ (.dmaPattern n ctl at_)
  | dmaAbusRegister {n o : Nat} {a : Addr} (hn : n < 8) (h : decodeAddr a = .reg o) :
      BusFault at_ (.dmaAbusRegister n a at_)

/-- A read raises only where the cartridge answers `unsupported` (R80). -/
theorem memRead_raise {a : Addr} {s t : State} {f : Fault} (h : memRead a s = .raise f t) :
    decodeAddr a = .cart a ∧ f = .cartUnsupported a .read s.opAddr := by
  cases hd : decodeAddr a with
  | wram i => exact nomatch (memRead_wram hd).symm.trans h
  | reg o => exact nomatch (memRead_reg hd).symm.trans h
  | openBus => exact nomatch (memRead_openBus hd).symm.trans h
  | undecoded => exact absurd hd (decodeAddr_ne_undecoded a)
  | cart b =>
    obtain rfl := decodeAddr_cart hd
    cases hc : cartRead s.cart b with
    | mk ans c =>
      cases ans with
      | byte v => exact nomatch (memRead_cart_byte hd hc).symm.trans h
      | undriven => exact nomatch (memRead_cart_undriven hd hc).symm.trans h
      | unsupported =>
        obtain ⟨rfl, -⟩ := Res.raise.inj ((memRead_cart_unsupported hd hc).symm.trans h)
        exact ⟨rfl, rfl⟩

/-- A plain store raises only where the cartridge answers `unsupported` (R81). -/
theorem storeByte_raise {a : Addr} {v : Byte} {s t : State} {f : Fault} (h : storeByte a v s = .raise f t) :
    decodeAddr a = .cart a ∧ f = .cartUnsupported a .write s.opAddr := by
  unfold storeByte at h
  cases hd : decodeAddr a with
  | undecoded => exact absurd hd (decodeAddr_ne_undecoded a)
  | cart b =>
    obtain rfl := decodeAddr_cart hd
    cases hc : cartWrite s.cart b v <;> simp_all
  | _ => simp [hd] at h

/-! ### Operations that raise bus faults only -/

/-- `t` has the noted opcode address and the recorded fault of `s`. -/
structure SameNote (s t : State) : Prop where
  opAddr : t.opAddr = s.opAddr
  fault : t.fault = s.fault

theorem SameNote.refl (s : State) : SameNote s s := ⟨rfl, rfl⟩

theorem SameNote.trans {s t u : State} (h1 : SameNote s t) (h2 : SameNote t u) : SameNote s u :=
  ⟨h2.opAddr.trans h1.opAddr, h2.fault.trans h1.fault⟩

theorem BusOnly.sameNote {s t : State} (h : BusOnly s t) : SameNote s t := ⟨h.opAddr_eq, h.fault_eq⟩

/-- An operation from `s` keeps the note, and what it raises is a bus fault at the noted address. -/
def Res.BusFaults {α : Type} (r : Res α) (s : State) : Prop :=
  match r with
  | .ok _ t => SameNote s t
  | .raise f t => SameNote s t ∧ BusFault s.opAddr f

namespace Res.BusFaults

variable {α β : Type} {r : Res α} {s t : State}

theorem of_sameNote (hr : r.BusFaults t) (h : SameNote s t) : r.BusFaults s := by
  cases r with
  | ok v u => exact h.trans hr
  | raise f u =>
    obtain ⟨hnote, hf⟩ := hr
    exact ⟨h.trans hnote, h.opAddr ▸ hf⟩

theorem bind {f : α → State → Res β} (hr : r.BusFaults s) (hf : ∀ v t, (f v t).BusFaults t) : (r.bind f).BusFaults s := by
  cases r with
  | ok v t => exact (hf v t).of_sameNote hr
  | raise e t => exact hr

/-- An operation, then an update that keeps the note. -/
theorem bind_ok {f : α → State → β} {g : α → State → State} (hr : r.BusFaults s) (hg : ∀ v t, SameNote t (g v t)) :
    (r.bind fun v t => .ok (f v t) (g v t)).BusFaults s :=
  hr.bind hg

/-- A bus-only operation, by what it raises. -/
theorem of_busOnly (hr : r.All (BusOnly s)) (h : ∀ f t, r = .raise f t → BusFault s.opAddr f) : r.BusFaults s := by
  cases r with
  | ok v t => exact hr.sameNote
  | raise f t => exact ⟨hr.sameNote, h f t rfl⟩

theorem sameNote_of_ok {v : α} (hr : r.BusFaults s) (h : r = .ok v t) : SameNote s t := by
  subst h
  exact hr

theorem of_raise {f : Fault} (hr : r.BusFaults s) (h : r = .raise f t) : SameNote s t ∧ BusFault s.opAddr f := by
  subst h
  exact hr

end Res.BusFaults

section Bus

variable (a : Addr) (v : Byte) (s : State)

theorem memRead_busFaults : (memRead a s).BusFaults s :=
  .of_busOnly (memRead_busOnly a s) fun _ _ h => by
    obtain ⟨hd, rfl⟩ := memRead_raise h
    exact .cart .read hd

theorem storeByte_busFaults : (storeByte a v s).BusFaults s :=
  .of_busOnly (storeByte_busOnly a v s) fun _ _ h => by
    obtain ⟨hd, rfl⟩ := storeByte_raise h
    exact .cart .write hd

theorem dmaByte_busFaults {n : Nat} (hn : n < 8) (ctl : Byte) (b : Addr) : (dmaByte n ctl a b s).BusFaults s := by
  unfold dmaByte
  split
  · next hd => exact ⟨.refl s, .dmaAbusRegister hn hd⟩
  · split
    · exact (memRead_busFaults _ s).bind fun v t => storeByte_busFaults _ v t
    · exact (memRead_busFaults _ s).bind fun v t => storeByte_busFaults _ v t

theorem dmaBytes_busFaults {n : Nat} (hn : n < 8) (ctl bbad bank : Byte) :
    ∀ (r k : Nat) (off : Word) (s : State), (dmaBytes n ctl bbad bank r k off s).BusFaults s
  | 0, _, _, s => .refl s
  | r + 1, k, _, s =>
    (dmaByte_busFaults _ s hn ctl _).bind fun _ t => dmaBytes_busFaults hn ctl bbad bank r (k + 1) _ t

theorem dmaChannel_busFaults {n : Nat} (hn : n < 8) : (dmaChannel n s).BusFaults s := by
  unfold dmaChannel
  dsimp only
  split
  · next hctl => exact ⟨.refl s, .dmaPattern hn hctl⟩
  · exact (dmaBytes_busFaults hn _ _ _ _ _ _ s).bind_ok fun _ _ => ⟨rfl, rfl⟩

theorem dmaChannels_busFaults : ∀ (ns : List Nat) (s : State), (∀ n ∈ ns, n < 8) → (dmaChannels v ns s).BusFaults s
  | [], s, _ => .refl s
  | n :: ns, s, hns => by
    obtain ⟨hn, htail⟩ := List.forall_mem_cons.1 hns
    unfold dmaChannels
    split
    · exact (dmaChannel_busFaults s hn).bind fun _ t => dmaChannels_busFaults ns t htail
    · exact dmaChannels_busFaults ns s htail

theorem memWrite_busFaults : (memWrite a v s).BusFaults s := by
  unfold memWrite
  refine (storeByte_busFaults a v s).bind fun _ t => ?_
  split
  · exact dmaChannels_busFaults v _ t (by decide)
  · exact .refl t

end Bus

/-- Settles O13: the raises of a read and of a plain store; a write of cell 0x420B raises what the DMA engine can. -/
theorem busFaultsAreNamed : Obligations.BusFaultsAreNamed := by
  intro a v s t f
  refine ⟨memRead_raise, fun h hdma => storeByte_raise (by rwa [memWrite_eq_storeByte hdma] at h), fun h _ => ?_⟩
  obtain ⟨-, hf⟩ := (memWrite_busFaults a v s).of_raise h
  cases hf with
  | cart acc => exact .inl ⟨_, acc, rfl⟩
  | dmaPattern => exact .inr (.inl ⟨_, _, rfl⟩)
  | dmaAbusRegister => exact .inr (.inr ⟨_, _, rfl⟩)

/-! ### Operands and the stack -/

section Operations

variable (s : State)

theorem readFrom_busFaults (ea : EA) : ∀ (n k : Nat) (s : State), (readFrom ea k n s).BusFaults s
  | 0, _, s => .refl s
  | n + 1, k, s => (memRead_busFaults _ s).bind fun _ t => (readFrom_busFaults ea n (k + 1) t).bind_ok fun _ _ => .refl _

theorem readN_busFaults (ea : EA) (n : Nat) : (readN ea n s).BusFaults s := readFrom_busFaults ea n 0 s

theorem readWord_busFaults (ea : EA) : (readWord ea s).BusFaults s := (readN_busFaults s ea 2).bind_ok fun _ _ => .refl _

theorem readAt_busFaults (ea : EA) (w : Width) : (readAt ea w s).BusFaults s :=
  (readN_busFaults s ea w.bytes).bind_ok fun _ _ => .refl _

theorem pointerAddr_busFaults (ea : EA) : (pointerAddr ea s).BusFaults s :=
  (readWord_busFaults s ea).bind_ok fun _ _ => .refl _

theorem longPointerAddr_busFaults (ea : EA) : (longPointerAddr ea s).BusFaults s :=
  (readN_busFaults s ea 3).bind_ok fun _ _ => .refl _

theorem getAddress_busFaults (mode : MemMode) : (getAddress mode s).BusFaults s := by
  cases mode
  case dpInd o => exact pointerAddr_busFaults s _
  case dpIndX o => exact pointerAddr_busFaults s _
  case dpIndL o => exact longPointerAddr_busFaults s _
  case dpIndY o => exact (pointerAddr_busFaults s _).bind_ok fun _ _ => .refl _
  case srIndY o => exact (pointerAddr_busFaults s _).bind_ok fun _ _ => .refl _
  case dpIndLY o => exact (longPointerAddr_busFaults s _).bind_ok fun _ _ => .refl _
  all_goals exact SameNote.refl s

theorem getValue_busFaults (op : Operand) (w : Width) : (getValue op w s).BusFaults s := by
  cases op with
  | imm v => exact .refl s
  | acc => exact .refl s
  | mem mode => exact (getAddress_busFaults s mode).bind fun ea t => readAt_busFaults t ea w

theorem writeFrom_busFaults (ea : EA) : ∀ (n k : Nat) (v : Word) (s : State), (writeFrom ea k n v s).BusFaults s
  | 0, _, _, s => .refl s
  | n + 1, k, _, s => (memWrite_busFaults _ _ s).bind fun _ t => writeFrom_busFaults ea n (k + 1) _ t

theorem storeTo_busFaults (mode : MemMode) (w : Width) (v : State → Word) : (storeTo mode w v s).BusFaults s :=
  (getAddress_busFaults s mode).bind fun ea t => writeFrom_busFaults ea w.bytes 0 (v t) t

/-- A read-modify-write of memory, whose updates of the flags keep the note. -/
theorem readModifyWrite_busFaults (mode : MemMode) (w : Width) {pre post : Word → State → State} (new : Word → State → Word)
    (hpre : ∀ v t, SameNote t (pre v t)) (hpost : ∀ v t, SameNote t (post v t)) :
    (readModifyWrite (.mem mode) w pre new post s).BusFaults s :=
  (getAddress_busFaults s mode).bind fun ea s1 => (readAt_busFaults s1 ea w).bind fun v s2 =>
    ((writeFrom_busFaults ea w.bytes 0 (new v s2) (pre v s2)).of_sameNote (hpre v s2)).bind_ok fun _ t =>
      hpost (new v s2) t

/-- INC and DEC of memory (R256, R257). -/
theorem modifyNZ_busFaults (mode : MemMode) (new : Word → Word) : (modifyNZ (.mem mode) new s).BusFaults s :=
  readModifyWrite_busFaults s mode s.wM _ (fun _ t => .refl t) fun _ _ => ⟨rfl, rfl⟩

theorem blockMoveByte_busFaults (delta : Word) (dbk sbk : Byte) (s : State) : (blockMoveByte delta dbk sbk s).BusFaults s :=
  (memRead_busFaults _ s).bind fun v t => (memWrite_busFaults _ v t).bind_ok fun _ _ => ⟨rfl, rfl⟩

theorem blockMoveBytes_busFaults (delta : Word) (dbk sbk : Byte) :
    ∀ (n : Nat) (s : State), (blockMoveBytes delta dbk sbk n s).BusFaults s
  | 0, s => blockMoveByte_busFaults delta dbk sbk s
  | n + 1, s => (blockMoveByte_busFaults delta dbk sbk s).bind fun _ t => blockMoveBytes_busFaults delta dbk sbk n t

theorem blockMove_busFaults (delta : Word) (dbk sbk : Byte) : (blockMove delta dbk sbk s).BusFaults s :=
  (blockMoveBytes_busFaults delta dbk sbk _ { s with dbr := dbk }).of_sameNote ⟨rfl, rfl⟩

theorem push8_busFaults (v : Byte) : (push8 v s).BusFaults s := (memWrite_busFaults _ v s).bind_ok fun _ _ => ⟨rfl, rfl⟩

theorem push16_busFaults (v : Word) : (push16 v s).BusFaults s :=
  (push8_busFaults s _).bind fun _ t => push8_busFaults t _

theorem pushAt_busFaults (w : Width) (v : Word) : (pushAt w v s).BusFaults s := by
  cases w with
  | w8 => exact push8_busFaults s _
  | w16 => exact push16_busFaults s v

theorem pushIndirect_busFaults (o : Byte) : (pushIndirect o s).BusFaults s :=
  (readWord_busFaults s _).bind fun v t => push16_busFaults t v

theorem pop8_busFaults : (pop8 s).BusFaults s := (memRead_busFaults _ (s.setS (s.sp + 1))).of_sameNote ⟨rfl, rfl⟩

theorem pop16_busFaults : (pop16 s).BusFaults s :=
  (pop8_busFaults s).bind fun _ t => (pop8_busFaults t).bind_ok fun _ _ => .refl _

theorem popAt_busFaults (w : Width) : (popAt w s).BusFaults s := by
  cases w with
  | w8 => exact (pop8_busFaults s).bind_ok fun _ _ => .refl _
  | w16 => exact pop16_busFaults s

theorem callIndexed_busFaults (a16 : Word) : (callIndexed a16 s).BusFaults s :=
  (push16_busFaults s _).bind fun _ t => (readWord_busFaults t _).bind_ok fun _ _ => ⟨rfl, rfl⟩

theorem callLong_busFaults (a24 : Addr) : (callLong a24 s).BusFaults s :=
  (push8_busFaults s s.k).bind fun _ t => (push16_busFaults t _).bind_ok fun _ _ => ⟨rfl, rfl⟩

theorem returnLong_busFaults : (returnLong s).BusFaults s :=
  (pop16_busFaults s).bind fun _ t => (pop8_busFaults t).bind_ok fun _ _ => ⟨rfl, rfl⟩

theorem enter_busFaults (k : IntKind) : (enter k s).BusFaults s := by
  have hbank : (if s.e then Res.ok () s else push8 s.k s).BusFaults s := by
    split
    · exact SameNote.refl s
    · exact push8_busFaults s s.k
  exact hbank.bind fun _ s1 => (push16_busFaults s1 s1.pc).bind fun _ s2 =>
    (push8_busFaults s2 (pushedP k s2)).bind_ok fun _ _ => ⟨rfl, rfl⟩

theorem returnFromInterrupt_busFaults : (returnFromInterrupt s).BusFaults s := by
  refine (pop8_busFaults s).bind fun p s1 => Res.BusFaults.of_sameNote (t := s1.writeP p) ?_ ⟨rfl, rfl⟩
  refine (pop16_busFaults _).bind fun pc s2 => ?_
  dsimp only
  split
  · exact ⟨rfl, rfl⟩
  · exact Res.BusFaults.of_sameNote (t := { s2 with pc := pc }) ((pop8_busFaults _).bind_ok fun _ _ => ⟨rfl, rfl⟩)
      ⟨rfl, rfl⟩

end Operations

/-! ### What an instruction records -/

/-- A fatal condition of an instruction executed from `s`: a bus fault, or the decimal mode of ADC and SBC with its own opcode
(R250, R442). -/
inductive InstrFault (i : Instr) (s : State) : Fault → Prop where
  | bus {f : Fault} (h : BusFault s.opAddr f) : InstrFault i s f
  | decimal {op : Byte} (hi : i.mnemonic = .adc ∨ i.mnemonic = .sbc) (henc : encodedAs i op) (hd : s.p.d = true) :
      InstrFault i s (.decimalMode s.opAddr op)

/-- The next state that an outcome names keeps the recorded fault of `s`, or records one that `named` allows. -/
def RecordsOnly (named : Fault → Prop) (s : State) (o : Out) : Prop :=
  ∀ t, o = .next t → t.fault = s.fault ∨ ∃ f, t.fault = some f ∧ named f

theorem next_recordsOnly {named : Fault → Prop} {s t : State} (h : t.fault = s.fault) : RecordsOnly named s (.next t) := by
  rintro _ ⟨⟩
  exact .inl h

theorem finish_busFaults {s : State} {r : Res Unit} (hr : r.BusFaults s) : RecordsOnly (BusFault s.opAddr) s (finish r) := by
  intro t ht
  rcases finish_eq_next.1 ht with hk | ⟨f, u, hk, rfl⟩
  · exact .inl (hr.sameNote_of_ok hk).fault
  · exact .inr ⟨f, rfl, (hr.of_raise hk).2⟩

section Exec

variable {i : Instr} {s : State}

theorem finish_instrFault {r : Res Unit} (hr : r.BusFaults s) : RecordsOnly (InstrFault i s) s (finish r) := fun t ht =>
  (finish_busFaults hr t ht).imp_right fun ⟨f, hf, h⟩ => ⟨f, hf, .bus h⟩

/-- A read or a pull, then an update of the registers. -/
theorem finish_bind_instrFault {α : Type} {r : Res α} {g : α → State → State} (hr : r.BusFaults s)
    (hg : ∀ v t, SameNote t (g v t)) : RecordsOnly (InstrFault i s) s (finish (r.bind fun v t => .ok () (g v t))) :=
  finish_instrFault (hr.bind_ok hg)

/-- ADC and SBC: the decimal check, before any access (R250). -/
theorem finish_binaryOnly_instrFault {op : Byte} {body : Res Unit} (hi : i.mnemonic = .adc ∨ i.mnemonic = .sbc)
    (henc : encodedAs i op) (hbody : body.BusFaults s) : RecordsOnly (InstrFault i s) s (finish (binaryOnly op s body)) := by
  unfold binaryOnly
  split
  · next hd =>
    rintro _ ⟨⟩
    exact .inr ⟨_, rfl, .decimal hi henc hd⟩
  · exact finish_instrFault hbody

theorem addA_instrFault {op : Byte} (x : Operand) (hi : i.mnemonic = .adc) (henc : encodedAs i op) :
    RecordsOnly (InstrFault i s) s (finish (addA op x s)) :=
  finish_binaryOnly_instrFault (.inl hi) henc ((getValue_busFaults s x s.wM).bind_ok fun _ _ => ⟨rfl, rfl⟩)

theorem subA_instrFault {op : Byte} (x : Operand) (hi : i.mnemonic = .sbc) (henc : encodedAs i op) :
    RecordsOnly (InstrFault i s) s (finish (subA op x s)) :=
  finish_binaryOnly_instrFault (.inr hi) henc ((getValue_busFaults s x s.wM).bind_ok fun _ _ => ⟨rfl, rfl⟩)

end Exec

/-- The faults of every instruction, from the shared operation it is made of. -/
theorem exec_instrFault (i : Instr) (s : State) : RecordsOnly (InstrFault i s) s (exec i s) := by
  cases i
  case ldaDpIndX | ldaSr | ldaDp | ldaDpIndL | ldaAbs | ldaLong | ldaDpIndY | ldaDpInd | ldaSrIndY | ldaDpX | ldaDpIndLY |
      ldaAbsY | ldaAbsX | ldaLongX | ldxDp | ldxAbs | ldxDpY | ldxAbsY | ldyDp | ldyAbs | ldyDpX | ldyAbsX | cmpDpIndX |
      cmpSr | cmpDp | cmpDpIndL | cmpAbs | cmpLong | cmpDpIndY | cmpDpInd | cmpSrIndY | cmpDpX | cmpDpIndLY | cmpAbsY |
      cmpAbsX | cmpLongX | cpxDp | cpxAbs | cpyDp | cpyAbs | andDpIndX | andSr | andDp | andDpIndL | andAbs | andLong |
      andDpIndY | andDpInd | andSrIndY | andDpX | andDpIndLY | andAbsY | andAbsX | andLongX | oraDpIndX | oraSr | oraDp |
      oraDpIndL | oraAbs | oraLong | oraDpIndY | oraDpInd | oraSrIndY | oraDpX | oraDpIndLY | oraAbsY | oraAbsX |
      oraLongX | eorDpIndX | eorSr | eorDp | eorDpIndL | eorAbs | eorLong | eorDpIndY | eorDpInd | eorSrIndY | eorDpX |
      eorDpIndLY | eorAbsY | eorAbsX | eorLongX | bitDp | bitAbs | bitDpX | bitAbsX =>
    exact finish_bind_instrFault (getValue_busFaults s (.mem _) _) fun _ _ => ⟨rfl, rfl⟩
  case adcDpIndX | adcSr | adcDp | adcDpIndL | adcImmM | adcAbs | adcLong | adcDpIndY | adcDpInd | adcSrIndY | adcDpX |
      adcDpIndLY | adcAbsY | adcAbsX | adcLongX => exact addA_instrFault _ rfl rfl
  case sbcDpIndX | sbcSr | sbcDp | sbcDpIndL | sbcImmM | sbcAbs | sbcLong | sbcDpIndY | sbcDpInd | sbcSrIndY | sbcDpX |
      sbcDpIndLY | sbcAbsY | sbcAbsX | sbcLongX => exact subA_instrFault _ rfl rfl
  case staDpIndX | staSr | staDp | staDpIndL | staAbs | staLong | staDpIndY | staDpInd | staSrIndY | staDpX | staDpIndLY |
      staAbsY | staAbsX | staLongX | stxDp | stxAbs | stxDpY | styDp | styAbs | styDpX | stzDp | stzDpX | stzAbs | stzAbsX =>
    exact finish_instrFault (storeTo_busFaults s _ _ _)
  case incDp | incAbs | incDpX | incAbsX | decDp | decAbs | decDpX | decAbsX =>
    exact finish_instrFault (modifyNZ_busFaults s _ _)
  case tsbDp | tsbAbs | trbDp | trbAbs | aslDp | aslAbs | aslDpX | aslAbsX | rolDp | rolAbs | rolDpX | rolAbsX | lsrDp |
      lsrAbs | lsrDpX | lsrAbsX | rorDp | rorAbs | rorDpX | rorAbsX =>
    exact finish_instrFault (readModifyWrite_busFaults s _ _ _ (fun _ _ => ⟨rfl, rfl⟩) fun _ _ => ⟨rfl, rfl⟩)
  case mvn | mvp => exact finish_instrFault (blockMove_busFaults s _ _ _)
  case jmpAbsInd | jmpAbsIndX => exact finish_bind_instrFault (readWord_busFaults s _) fun _ _ => ⟨rfl, rfl⟩
  case jmlAbsIndL => exact finish_bind_instrFault (readN_busFaults s _ 3) fun _ _ => ⟨rfl, rfl⟩
  case jsrAbsJ => exact finish_bind_instrFault (push16_busFaults s _) fun _ _ => ⟨rfl, rfl⟩
  case jsrAbsIndX => exact finish_instrFault (callIndexed_busFaults s _)
  case jsl => exact finish_instrFault (callLong_busFaults s _)
  case rtl => exact finish_instrFault (returnLong_busFaults s)
  case pha | phx | phy => exact finish_instrFault (pushAt_busFaults s _ _)
  case php | phb | phk => exact finish_instrFault (push8_busFaults s _)
  case phd | pea | per => exact finish_instrFault (push16_busFaults s _)
  case pei => exact finish_instrFault (pushIndirect_busFaults s _)
  case pla | plx | ply => exact finish_bind_instrFault (popAt_busFaults s _) fun _ _ => ⟨rfl, rfl⟩
  case rts | pld => exact finish_bind_instrFault (pop16_busFaults s) fun _ _ => ⟨rfl, rfl⟩
  case plp | plb => exact finish_bind_instrFault (pop8_busFaults s) fun _ _ => ⟨rfl, rfl⟩
  case brk | cop => exact finish_instrFault (enter_busFaults s _)
  case rti => exact finish_instrFault (returnFromInterrupt_busFaults s)
  case xce => exact next_recordsOnly s.exchangeCE_fault
  case tax | tay | txa | tya | txy | tyx | tsx | txs | tcs | tsc | tcd | tdc | xba | inx | iny | dex | dey | bpl | bmi | bvc |
      bvs | bcc | bcs | bne | beq | bra | brl | jmpAbsJ | jmlLongJ | clc | sec | cli | sei | cld | rep | sep | sed | clv |
      wai | stp | nop | wdm | ldaImmM | ldxImmX | ldyImmX | cmpImmM | cpxImmX | cpyImmX | andImmM | oraImmM | eorImmM |
      bitImmM | incAcc | decAcc | aslAcc | rolAcc | lsrAcc | rorAcc => exact next_recordsOnly rfl

/-! ### What a step records -/

theorem decodeImm_of_length {w : Width} {bytes : List Byte} (h : bytes.length = w.bytes) :
    ∃ v, decodeImm w bytes = .ok (v, []) := by
  cases w with
  | w8 =>
    obtain ⟨b, rfl⟩ := List.length_eq_one_iff.1 h
    exact ⟨_, rfl⟩
  | w16 =>
    obtain ⟨b1, b2, rfl⟩ := List.length_eq_two.1 h
    exact ⟨_, rfl⟩

/-- As many operand bytes as an entry takes make an instruction (R125, R126). -/
theorem Entry.assemble_of_length {en : Entry} {m x : Bool} {bytes : List Byte} (h : bytes.length = en.operandCount m x) :
    ∃ i, en.assemble m x bytes = .ok (i, []) := by
  cases en with
  | none0 i =>
    obtain rfl := List.length_eq_zero_iff.1 h
    exact ⟨_, rfl⟩
  | byte f =>
    obtain ⟨b, rfl⟩ := List.length_eq_one_iff.1 h
    exact ⟨_, rfl⟩
  | word f | blk f =>
    obtain ⟨b1, b2, rfl⟩ := List.length_eq_two.1 h
    exact ⟨_, rfl⟩
  | long f =>
    obtain ⟨b1, b2, b3, rfl⟩ := List.length_eq_three.1 h
    exact ⟨_, rfl⟩
  | immM f | immX f =>
    obtain ⟨v, hv⟩ := decodeImm_of_length h
    exact ⟨f v, by simp [Entry.assemble, hv, Except.map]⟩

theorem fetchBytes_length : ∀ {n : Nat} {s t : State} {bytes : List Byte}, fetchBytes n s = .ok bytes t → bytes.length = n
  | 0, _, _, _, h => by
    cases h
    rfl
  | n + 1, _, _, _, h => by
    obtain ⟨b, s1, -, h⟩ := Res.bind_eq_ok.1 h
    obtain ⟨bs, s2, hbs, h⟩ := Res.bind_eq_ok.1 h
    cases h
    rw [List.length_cons, fetchBytes_length hbs]

theorem fetchByte_busFaults (s : State) : (fetchByte s).BusFaults s :=
  (memRead_busFaults _ s).bind_ok fun _ _ => ⟨rfl, rfl⟩

theorem fetchBytes_busFaults : ∀ (n : Nat) (s : State), (fetchBytes n s).BusFaults s
  | 0, s => .refl s
  | n + 1, s => (fetchByte_busFaults s).bind fun _ t => (fetchBytes_busFaults n t).bind_ok fun _ _ => .refl _

/-- A fetch raises bus faults only, since every opcode decodes (R122, R129). -/
theorem fetchInstr_busFaults (s : State) : (fetchInstr s).BusFaults s.noteOpAddr := by
  refine (fetchByte_busFaults _).bind fun op s1 => ?_
  obtain ⟨en, hen, -⟩ := opcodeEntry_encodesAs op
  rw [hen]
  dsimp only
  cases hbytes : fetchBytes (en.operandCount s1.p.m s1.p.x) s1 with
  | raise f s2 => exact (fetchBytes_busFaults _ s1).of_raise hbytes
  | ok bs s2 =>
    obtain ⟨i, hi⟩ := Entry.assemble_of_length (fetchBytes_length hbytes)
    rw [Res.ok_bind, decode_cons hen, hi]
    exact (fetchBytes_busFaults _ s1).sameNote_of_ok hbytes

theorem dispatch_busFaults (k : IntKind) (s : State) : (dispatch k s).BusFaults s.noteOpAddr := by
  unfold dispatch
  cases k with
  | reset => exact ⟨rfl, rfl⟩
  | _ => exact (enter_busFaults _ _).of_sameNote ⟨rfl, rfl⟩

/-- A fatal condition of a step that began in `s`: a bus fault, or the decimal mode of an ADC or SBC. -/
inductive StepFault (s : State) : Fault → Prop where
  | bus {f : Fault} (h : BusFault (mkAddr s.k s.pc) f) : StepFault s f
  | decimal {i : Instr} {op : Byte} (hi : i.mnemonic = .adc ∨ i.mnemonic = .sbc) (henc : encodedAs i op)
      (hd : s.p.d = true) : StepFault s (.decimalMode (mkAddr s.k s.pc) op)

theorem dispatch_records {k : IntKind} {s t : State} {f : Fault} (hs : s.fault = none)
    (h : finish (dispatch k s) = .next t) (hf : t.fault = some f) : t.opAddr = mkAddr s.k s.pc ∧ StepFault s f := by
  rcases finish_eq_next.1 h with hk | ⟨g, u, hk, rfl⟩
  · have hnote := (dispatch_busFaults k s).sameNote_of_ok hk
    simp [hnote.fault, hs] at hf
  · obtain ⟨hnote, hg⟩ := (dispatch_busFaults k s).of_raise hk
    cases hf
    exact ⟨hnote.opAddr, .bus hg⟩

theorem executeOne_records {s t : State} {f : Fault} (hs : s.fault = none) (h : executeOne s = .next t)
    (hf : t.fault = some f) : t.opAddr = mkAddr s.k s.pc ∧ StepFault s f := by
  have hfetch := fetchInstr_busFaults s
  have honly := fetchInstr_fetchOnly s
  unfold executeOne at h
  cases hr : fetchInstr s with
  | raise g u =>
    obtain ⟨hnote, hg⟩ := hfetch.of_raise hr
    rw [hr] at h
    cases h
    cases hf
    exact ⟨hnote.opAddr, .bus hg⟩
  | ok i u =>
    have hnote := hfetch.sameNote_of_ok hr
    have hu := honly.of_ok hr
    rw [hr] at h
    have hop : t.opAddr = u.opAddr := exec_same (q := .opAddr) h List.not_mem_nil (by decide)
    refine ⟨hop.trans hnote.opAddr, ?_⟩
    rcases exec_instrFault i u t h with hsame | ⟨g, hg, hnamed⟩
    · simp [hsame, hnote.fault, hs] at hf
    · obtain rfl := Option.some.inj (hg.symm.trans hf)
      have hat : u.opAddr = mkAddr s.k s.pc := hnote.opAddr
      cases hnamed with
      | bus hbus => exact .bus (hat ▸ hbus)
      | decimal hi henc hd =>
        rw [hat]
        exact .decimal hi henc (by rwa [hu] at hd)

theorem step_records {s t : State} {f : Fault} (hs : s.fault = none) (h : step s = .next t) (hf : t.fault = some f) :
    t.opAddr = mkAddr s.k s.pc ∧ StepFault s f := by
  rcases step_cases h with ⟨-, rfl⟩ | ⟨k, -, hk⟩ | ⟨-, he⟩
  · exact nomatch hs.symm.trans hf
  · exact dispatch_records hs hk hf
  · exact executeOne_records hs he hf

theorem step_of_fault {s : State} {f : Fault} (h : s.fault = some f) : step s = .fault f := by
  simp [step, h]

/-- Settles O47: a fetch, an instruction and a dispatch record named conditions only, and a faulted machine stops. -/
theorem stepRecordsNamedFaults : Obligations.StepRecordsNamedFaults := by
  intro s t f hs h hf at_
  obtain ⟨hop, hnamed⟩ := step_records hs h hf
  refine ⟨hop, step_of_fault hf, ?_⟩
  cases hnamed with
  | decimal hi henc hd => exact .inl ⟨_, _, hi, henc, hd, rfl⟩
  | bus hbus =>
    cases hbus with
    | cart acc hd => exact .inr (.inl ⟨_, acc, hd, rfl⟩)
    | dmaPattern hn hctl => exact .inr (.inr (.inl ⟨_, _, hn, hctl, rfl⟩))
    | dmaAbusRegister hn hd => exact .inr (.inr (.inr ⟨_, _, _, hn, hd, rfl⟩))

end Sys2Proof.Machine
end

section
/-! PROOFS. With a cartridge of plain storage (log 5) every operand can be read and every address computed, changing the latch
alone, and every store and push away from the DMA-enable register completes (R76, R153, R442). -/

namespace Sys2Proof.Machine

open Sys2Proof.Claims

/-! ### Reads -/

/-- An operation completes and changes the latch alone. -/
def Res.LatchOnly {α : Type} (r : Res α) (s : State) : Prop := ∃ v b, r = .ok v { s with mdr := b }

theorem Res.LatchOnly.pure {α : Type} (v : α) (s : State) : (Res.ok v s).LatchOnly s := ⟨v, s.mdr, rfl⟩

/-- One operation after another: the latch is no part of the cartridge, which stays plain. -/
theorem Res.LatchOnly.bind {α β : Type} {r : Res α} {s : State} {f : α → State → Res β} (h : s.cartPlain = true)
    (hr : r.LatchOnly s) (hf : ∀ v t, t.cartPlain = true → (f v t).LatchOnly t) : (r.bind f).LatchOnly s := by
  obtain ⟨v, b, rfl⟩ := hr
  exact hf v { s with mdr := b } h

theorem Res.LatchOnly.bind_ok {α β : Type} {r : Res α} {s : State} {g : α → State → β} (h : s.cartPlain = true)
    (hr : r.LatchOnly s) : (r.bind fun v t => .ok (g v t) t).LatchOnly s :=
  hr.bind h fun v t _ => .pure (g v t) t

theorem memRead_latchOnly {s : State} (h : s.cartPlain = true) (a : Addr) : (memRead a s).LatchOnly s :=
  have ⟨v, hv⟩ := memRead_of_cartPlain h a
  ⟨v, v, hv⟩

theorem readFrom_latchOnly (ea : EA) : ∀ (n k : Nat) (s : State), s.cartPlain = true → (readFrom ea k n s).LatchOnly s
  | 0, _, s, _ => .pure 0 s
  | n + 1, k, _, h => (memRead_latchOnly h _).bind h fun _ t ht => (readFrom_latchOnly ea n (k + 1) t ht).bind_ok ht

section Reads

variable {s : State} (h : s.cartPlain = true)
include h

theorem readN_latchOnly (ea : EA) (n : Nat) : (readN ea n s).LatchOnly s := readFrom_latchOnly ea n 0 s h

theorem readAt_latchOnly (ea : EA) (w : Width) : (readAt ea w s).LatchOnly s := (readN_latchOnly h ea w.bytes).bind_ok h

theorem pointerAddr_latchOnly (ea : EA) : (pointerAddr ea s).LatchOnly s :=
  ((readN_latchOnly h ea 2).bind_ok h).bind_ok h

theorem longPointerAddr_latchOnly (ea : EA) : (longPointerAddr ea s).LatchOnly s := (readN_latchOnly h ea 3).bind_ok h

theorem getAddress_latchOnly (mode : MemMode) : (getAddress mode s).LatchOnly s := by
  cases mode
  case dpInd o => exact pointerAddr_latchOnly h _
  case dpIndX o => exact pointerAddr_latchOnly h _
  case dpIndL o => exact longPointerAddr_latchOnly h _
  case dpIndY o => exact (pointerAddr_latchOnly h _).bind_ok h
  case srIndY o => exact (pointerAddr_latchOnly h _).bind_ok h
  case dpIndLY o => exact (longPointerAddr_latchOnly h _).bind_ok h
  all_goals exact .pure _ s

theorem getValue_latchOnly (op : Operand) (w : Width) : (getValue op w s).LatchOnly s := by
  cases op with
  | imm v => exact .pure _ s
  | acc => exact .pure _ s
  | mem mode => exact (getAddress_latchOnly h mode).bind h fun ea t ht => readAt_latchOnly ht ea w

theorem pop8_of_cartPlain : ∃ v, pop8 s = .ok v { s with sp := pinned s.e (s.sp + 1), mdr := v } := by
  rw [pop8_eq_memRead]
  exact memRead_of_cartPlain (s := { s with sp := pinned s.e (s.sp + 1) }) h _

end Reads

/-! ### Writes -/

theorem writeFrom_of_cartPlain {ea : EA} : ∀ (n k : Nat) (v : Word) (s : State), s.cartPlain = true →
    (∀ j, k ≤ j → j < k + n → decodeAddr (ea.byteAddr j) ≠ .reg 0x420B) →
    ∃ t, writeFrom ea k n v s = .ok () t ∧ t.cartPlain = true
  | 0, _, _, s, h, _ => ⟨s, rfl, h⟩
  | n + 1, k, v, s, h, hdma => by
    obtain ⟨t, ht, hplain⟩ := memWrite_of_cartPlain h (hdma k (Nat.le_refl k) (by omega)) (loByte v)
    rw [writeFrom_succ_ok ht]
    exact writeFrom_of_cartPlain n (k + 1) _ t hplain fun j h1 h2 => hdma j (by omega) (by omega)

section Writes

variable {s : State} (h : s.cartPlain = true)
include h

theorem writeN_of_cartPlain {ea : EA} {n : Nat} (hdma : awayFromDma ea n) (v : Word) :
    ∃ t, writeN ea n v s = .ok () t ∧ t.cartPlain = true :=
  writeFrom_of_cartPlain n 0 v s h fun j _ hj => hdma j (by omega)

theorem push8_of_cartPlain (hdma : decodeAddr (mkAddr 0 s.sp) ≠ .reg 0x420B) (v : Byte) :
    ∃ t, push8 v s = .ok () t ∧ t.cartPlain = true :=
  have ⟨_, ht, hplain⟩ := memWrite_of_cartPlain h hdma v
  ⟨_, push8_of_memWrite ht, hplain⟩

end Writes

/-- Settles O18: the reads change the latch alone, and each byte written keeps the cartridge plain. -/
theorem plainCartridgeAccessesComplete : Obligations.PlainCartridgeAccessesComplete := fun _ h =>
  ⟨getValue_latchOnly h, getAddress_latchOnly h, readN_latchOnly h, pop8_of_cartPlain h,
    fun _ _ v hdma => writeN_of_cartPlain h hdma v, fun v hdma => push8_of_cartPlain h hdma v⟩

end Sys2Proof.Machine
end

section
/-! PROOFS. The choice of a step, reset, and what other agents do between steps (R400-R420, R470-R482). -/

namespace Sys2Proof.Machine

open Sys2Proof.Claims

/-! ### The choice of R400 -/

section Choice

variable {s : State}

theorem step_of_idle (hs : s.fault = none) (h : nextAction s = .idle) : step s = .next s := by
  simp [step, hs, h]

theorem step_of_dispatch {k : IntKind} (hs : s.fault = none) (h : nextAction s = .dispatch k) :
    step s = finish (dispatch k s) := by
  simp [step, hs, h]

/-- A request is dispatched unless it is a masked IRQ (R412). -/
theorem dispatchable_iff (k : IntKind) : dispatchable k s = true ↔ ¬(k = .irq ∧ s.p.i = true) := by
  simp [dispatchable, Config.irqRespectsI, imp_iff_not_or]

theorem nextAction_of_stopped (hstop : s.stopped = true) (hp : s.pending ≠ some .reset) : nextAction s = .idle := by
  simp [nextAction, hstop, hp]

theorem nextAction_of_reset (hp : s.pending = some .reset) : nextAction s = .dispatch .reset := by
  have hd : dispatchable .reset s = true := (dispatchable_iff .reset).2 (by simp)
  simp [nextAction, hp, hd]

theorem nextAction_of_request {k : IntKind} (hstop : s.stopped = false) (hp : s.pending = some k)
    (hmask : ¬(k = .irq ∧ s.p.i = true)) : nextAction s = .dispatch k := by
  simp [nextAction, hstop, hp, (dispatchable_iff k).2 hmask]

/-- Where nothing is pending but a masked IRQ, a waiting machine idles (R412, R430). -/
theorem nextAction_of_waiting (hstop : s.stopped = false) (hwait : s.waiting = true)
    (hp : s.pending = none ∨ (s.pending = some .irq ∧ s.p.i = true)) : nextAction s = .idle := by
  rcases hp with hp | ⟨hp, hi⟩
  · simp [nextAction, hstop, hp, hwait]
  · simp [nextAction, hstop, hp, hwait, dispatchable, hi, Config.irqRespectsI]

/-- A dispatch but of RESET clears the slot and the wait flag, then takes the exception (R420). -/
theorem dispatch_eq_enter {k : IntKind} (hk : k ≠ .reset) (s : State) :
    dispatch k s = enter k { s with opAddr := mkAddr s.k s.pc, pending := none, waiting := false } := by
  cases k with
  | reset => exact absurd rfl hk
  | _ => rfl

end Choice

/-- Settles O46: the action chosen in each case, and then what it does. -/
theorem stepChoosesItsAction : Obligations.StepChoosesItsAction := by
  intro s
  refine ⟨fun f => step_of_fault, fun hs hstop hp => ?_, fun hs hp => ?_, fun k hs hstop hp hk hmask => ?_,
    fun hs hstop hwait hp => ?_, step_of_executes⟩
  · exact step_of_idle hs (nextAction_of_stopped hstop hp)
  · exact step_of_dispatch hs (nextAction_of_reset hp)
  · rw [step_of_dispatch hs (nextAction_of_request hstop hp hmask), dispatch_eq_enter hk]
  · exact step_of_idle hs (nextAction_of_waiting hstop hwait hp)

/-! ### Reset (R471, R480, R482) -/

theorem mkWord_one_eq_or (b : Byte) : mkWord 0x01 b = 0x0100 ||| b.setWidth 16 := by
  have h := mkWord_one_loByte (zext8 b)
  rwa [← zext8_loByte_eq_and, loByte_zext8] at h

/-- `ResetState` in the words of R480: SH is 0x01, and XH and YH are 0. -/
theorem State.resetState_eq (s : State) (dr : ResetDraw) : s.resetState dr =
    { s with a := dr.a, x := dr.xl.setWidth 16, y := dr.yl.setWidth 16, sp := 0x0100 ||| dr.sl.setWidth 16
             d := 0, dbr := 0, k := 0, pc := s.vt.emulation.reset, mdr := dr.mdr, e := true
             p := ⟨dr.n, dr.v, true, true, false, true, dr.z, dr.c⟩
             pending := none, waiting := false, stopped := false } := by
  rw [← mkWord_one_eq_or]
  rfl

/-- The power-on state is what its own draw leaves (R482). -/
theorem State.powerOn_resetState (dr : ResetDraw) (wram cells : Memory) (cart : Cart) (vt : VectorTable) :
    (State.powerOn dr wram cells cart vt).resetState dr = State.powerOn dr wram cells cart vt := rfl

/-- Settles O48: a RESET dispatch and `reset()` apply `ResetState` to the next free draw, and power-on to the draw it is given. -/
theorem resetState : Obligations.ResetState := by
  unfold Obligations.ResetState
  intro resetBy
  have of_resetState (dr : ResetDraw) (s : State) (at_ : Addr) (n : Nat) :
      resetBy dr s { s.resetState dr with opAddr := at_, draws := n } := by
    rw [State.resetState_eq]
    exact ⟨n, rfl⟩
  refine ⟨fun s hs hp => ?_, fun s => ⟨_, of_resetState (Config.resetDraw s.draws) s s.opAddr (s.draws + 1)⟩,
    fun dr wram cells cart vt => ⟨?_, rfl, rfl, rfl, rfl, rfl⟩⟩
  · exact ⟨_, _, step_of_dispatch hs (nextAction_of_reset hp),
      of_resetState (Config.resetDraw s.draws) s (mkAddr s.k s.pc) (s.draws + 1)⟩
  · have h := of_resetState dr (State.powerOn dr wram cells cart vt) 0 0
    rwa [State.powerOn_resetState] at h

/-! ### Other agents (R410, R470) -/

/-- A shared cell is none of the core's own: neither the DMA-enable register nor a DMA register (R470). -/
theorem isSharedCell_of_own {o : Nat} (h : o = 0x420B ∨ (0x4300 ≤ o ∧ o ≤ 0x437F)) : isSharedCell o = false := by
  rcases h with rfl | h
  · decide
  · simp [isSharedCell, h]

theorem State.writeCell_of_shared {o : Nat} (h : isSharedCell o = true) (s : State) (v : Byte) :
    s.writeCell o v = { s with cells := s.cells.write o v } := by
  simp [State.writeCell, h]

theorem State.writeCell_of_not_shared {o : Nat} (h : isSharedCell o = false) (s : State) (v : Byte) :
    s.writeCell o v = s := by
  simp [State.writeCell, h]

/-- Settles O52. -/
theorem hostEventsBetweenSteps : Obligations.HostEventsBetweenSteps := by
  intro s k j o v
  refine ⟨rfl, rfl, fun hshared hs => ?_, fun hown => State.writeCell_of_not_shared (isSharedCell_of_own hown) s v⟩
  obtain ⟨-, ⟨hwf, -⟩, -⟩ := (memoriesOk_iff s).1 hs
  rw [HostEvent.apply, State.writeCell_of_shared hshared]
  exact ⟨rfl, Memory.read_write_same _ _ _ hwf, fun o' ho => Memory.read_write_other _ _ _ _ ho⟩

end Sys2Proof.Machine
end

section
/-! PROOFS. The frame of an interrupt entry on a stack in WRAM, byte by byte, and the return that pulls it (R95-R98, R381, R421,
R425). -/

namespace Sys2Proof.Machine

open Sys2Proof.Claims

/-! ### Bytes pushed one after another -/

/-- The place of byte `k` of those pushed from a state, the first being byte 0 (R28, R95). -/
def State.stackPlace (s : State) (k : Nat) : Word := pinned s.e (s.sp - BitVec.ofNat 16 k)

/-- The state after bytes are pushed, the head of the list first, on a stack in WRAM. -/
def State.withPushedBytes (s : State) (bytes : List Byte) : State := bytes.foldl State.withPushedByte s

section Pushed

variable {s : State}

theorem withPushedByte_stackOnly (s : State) (b : Byte) : StackOnly s (s.withPushedByte b) := rfl

theorem withPushedBytes_stackOnly : ∀ (bytes : List Byte) (s : State), StackOnly s (s.withPushedBytes bytes)
  | [], s => .refl s
  | b :: bytes, s => (withPushedByte_stackOnly s b).trans (withPushedBytes_stackOnly bytes (s.withPushedByte b))

theorem withPushedBytes_concat (s : State) (bytes : List Byte) (b : Byte) :
    s.withPushedBytes (bytes ++ [b]) = (s.withPushedBytes bytes).withPushedByte b := by
  simp [State.withPushedBytes]

theorem stackPlace_withPushedByte (s : State) (b : Byte) (k : Nat) :
    (s.withPushedByte b).stackPlace k = s.stackPlace (k + 1) := by
  rw [State.stackPlace, State.stackPlace, Nat.add_comm, BitVec.ofNat_add, ← BitVec.sub_sub]
  exact pinned_pinned_sub s.e (s.sp - 1) (BitVec.ofNat 16 k)

/-- `j` places above the place of byte `k + j` is that of byte `k`. -/
theorem stackPlace_add (s : State) (k j : Nat) :
    pinned s.e (s.stackPlace (k + j) + BitVec.ofNat 16 j) = s.stackPlace k := by
  rw [State.stackPlace, pinned_pinned_add, BitVec.ofNat_add, ← BitVec.sub_sub, BitVec.sub_add_cancel]
  rfl

theorem stackPlace_ne (s : State) {j k : Nat} (hjk : j < k) (hk : k < 0x100) : s.stackPlace k ≠ s.stackPlace j :=
  pinned_sub_ne s.e s.sp hjk hk

/-- While E = 1, S is in page 1. -/
def State.stackPinned (s : State) : Prop := s.stackPlace 0 = s.sp

theorem stackPinned_of_stackInWram {n : Nat} (h : stackInWram s n = true) : s.stackPinned := by
  rw [State.stackPinned, State.stackPlace, BitVec.sub_zero]
  exact pinned_sp_of_stackInWram h

theorem stackPinned_withPushedByte (s : State) (b : Byte) : (s.withPushedByte b).stackPinned :=
  stackPlace_withPushedByte s b 0

theorem withPushedBytes_sp : ∀ (bytes : List Byte) (s : State), s.stackPinned →
    (s.withPushedBytes bytes).sp = s.stackPlace bytes.length
  | [], _, hpin => hpin.symm
  | b :: bytes, s, _ => (withPushedBytes_sp bytes _ (stackPinned_withPushedByte s b)).trans
      (stackPlace_withPushedByte s b bytes.length)

/-- A push reaches no place but its own. -/
theorem stackByte_withPushedBytes_other {off : Word} : ∀ (bytes : List Byte) (s : State), s.stackPinned →
    (∀ k < bytes.length, s.stackPlace k ≠ off) → stackByte (s.withPushedBytes bytes) off = stackByte s off
  | [], _, _, _ => rfl
  | b :: bytes, s, hpin, hoff => by
    have hfirst : off.toNat ≠ s.sp.toNat := fun heq =>
      hoff 0 (Nat.succ_pos _) (hpin.trans (BitVec.eq_of_toNat_eq heq.symm))
    refine (stackByte_withPushedBytes_other bytes (s.withPushedByte b) (stackPinned_withPushedByte s b) fun k hk => ?_).trans
      (Memory.read_write_other _ _ _ _ hfirst)
    rw [stackPlace_withPushedByte]
    exact hoff (k + 1) (Nat.succ_lt_succ hk)

/-- Each byte pushed is in its place. -/
theorem stackByte_withPushedBytes {bytes : List Byte} {k : Nat} {b : Byte} (hwf : s.wram.wf = true) (hpin : s.stackPinned)
    (hlen : bytes.length ≤ 0x100) (hb : bytes[k]? = some b) :
    stackByte (s.withPushedBytes bytes) (s.stackPlace k) = b := by
  induction bytes generalizing k s with
  | nil => simp at hb
  | cons b' bytes ih =>
    have hpin' := stackPinned_withPushedByte s b'
    have hlen' : bytes.length < 0x100 := hlen
    cases k with
    | zero =>
      obtain rfl : b' = b := by simpa using hb
      refine (stackByte_withPushedBytes_other bytes _ hpin' fun k hk => ?_).trans ?_
      · rw [stackPlace_withPushedByte]
        exact stackPlace_ne s (Nat.succ_pos k) (Nat.lt_of_le_of_lt hk hlen')
      · rw [show s.stackPlace 0 = s.sp from hpin]
        exact Memory.read_write_same _ _ _ hwf
    | succ k =>
      rw [← stackPlace_withPushedByte s b']
      exact ih (withPushedByte_wf b' hwf) hpin' (Nat.le_of_lt hlen') (by simpa using hb)

section Stack

variable {n : Nat} {bytes : List Byte} (h : stackInWram s n = true)
include h

theorem push8_withPushedBytes (hn : bytes.length < n) (b : Byte) :
    push8 b (s.withPushedBytes bytes) = .ok () (s.withPushedBytes (bytes ++ [b])) := by
  rw [withPushedBytes_concat]
  refine push8_wram b ?_
  rw [withPushedBytes_sp bytes s (stackPinned_of_stackInWram h)]
  exact stackInWram_le h hn

theorem push16_withPushedBytes (hn : bytes.length + 1 < n) (v : Word) :
    push16 v (s.withPushedBytes bytes) = .ok () (s.withPushedBytes (bytes ++ [hiByte v, loByte v])) := by
  rw [push16_of_push8 (push8_withPushedBytes h (Nat.lt_of_succ_lt hn) _), push8_withPushedBytes h (by simpa using hn)]
  simp

/-- Pulling byte `k` of the pushed ones, where WRAM and E are as the pushes left them and S is at the next place below. -/
theorem pop8_of_withPushedBytes {t : State} {k : Nat} {b : Byte} (hwf : s.wram.wf = true) (hlen : bytes.length ≤ 0x100)
    (hk : k < n) (hb : bytes[k]? = some b) (hwram : t.wram = (s.withPushedBytes bytes).wram) (he : t.e = s.e)
    (hsp : t.sp = s.stackPlace (k + 1)) : pop8 t = .ok b { t with sp := s.stackPlace k, mdr := b } := by
  have hplace : pinned t.e (t.sp + 1) = s.stackPlace k := by
    rw [he, hsp]
    exact stackPlace_add s k 1
  have hbyte : stackByte t (s.stackPlace k) = b :=
    (congrArg (Memory.read · _) hwram).trans (stackByte_withPushedBytes hwf (stackPinned_of_stackInWram h) hlen hb)
  rw [pop8_wram (by rw [hplace]; exact stackInWram_le h hk), hplace, hbyte]

end Stack

end Pushed

/-! ### The frame of an entry (R421) -/

/-- The P that an entry pushes: in emulation mode bit 4 tells BRK from the others. -/
def statusPushed (k : IntKind) (s : State) : Byte := if s.e then { s.p with x := breakBit k }.toByte else s.p.toByte

/-- The bytes that an entry pushes before PC: K, in native mode only. -/
def bankPushed (s : State) : List Byte := if s.e then [] else [s.k]

/-- The bytes that an entry pushes, in their order. -/
def entryFrame (k : IntKind) (s : State) : List Byte := bankPushed s ++ [hiByte s.pc, loByte s.pc, statusPushed k s]

/-- The state that an entry leaves with the stack in WRAM. -/
def enteredState (k : IntKind) (s : State) : State :=
  { s.withPushedBytes (entryFrame k s) with
    p := { s.p with i := true, d := false }, k := 0, pc := entryVector s.vt k s.e }

theorem enteredState_e (k : IntKind) (s : State) : (enteredState k s).e = s.e := (withPushedBytes_stackOnly _ s).e_eq

theorem entryFrame_length (k : IntKind) (s : State) : (entryFrame k s).length = (bankPushed s).length + 3 :=
  List.length_append

theorem bankPushed_length (s : State) : (bankPushed s).length + 3 = if s.e then 3 else 4 := by
  cases he : s.e <;> simp [bankPushed, he]

section Entry

variable {s : State} (k : IntKind) (h : stackInWram s (if s.e then 3 else 4) = true)
include h

theorem enter_wram : enter k s = .ok () (enteredState k s) := by
  rw [← bankPushed_length] at h
  have hbank : (if s.e then Res.ok () s else push8 s.k s) = .ok () (s.withPushedBytes (bankPushed s)) := by
    cases he : s.e with
    | true => simp [bankPushed, he, State.withPushedBytes]
    | false =>
      rw [bankPushed, he]
      exact push8_withPushedBytes (bytes := []) h (Nat.succ_pos _) s.k
  rw [enter_eq_entered, entered, hbank, Res.ok_bind, push16_withPushedBytes h (by omega), Res.ok_bind,
    push8_withPushedBytes h (by simp), Res.ok_bind, List.append_assoc]
  rfl

theorem enteredState_sp : (enteredState k s).sp = pinned s.e (s.sp - if s.e then 3 else 4) := by
  refine (withPushedBytes_sp _ s (stackPinned_of_stackInWram h)).trans ?_
  rw [entryFrame_length, bankPushed_length, State.stackPlace]
  cases s.e <;> rfl

/-- Byte `j` of the frame is `i` places above S. -/
theorem stackByte_enteredState (hwf : s.wram.wf = true) {i j : Nat} {b : Byte} (hb : (entryFrame k s)[j]? = some b)
    (hij : j + i = if s.e then 3 else 4) :
    stackByte (enteredState k s) (pinned s.e ((enteredState k s).sp + BitVec.ofNat 16 i)) = b := by
  have hpin := stackPinned_of_stackInWram h
  have hlen : (entryFrame k s).length = j + i := by rw [entryFrame_length, bankPushed_length, hij]
  have hsp : (enteredState k s).sp = s.stackPlace (j + i) := hlen ▸ withPushedBytes_sp _ s hpin
  rw [hsp, stackPlace_add]
  refine stackByte_withPushedBytes hwf hpin ?_ hb
  rw [entryFrame_length, bankPushed_length]
  split <;> decide

end Entry

/-- Settles O44: the frame is pushed byte by byte, and each byte is found as many places above S as were pushed from it on. -/
theorem entryStacksTheFrame : Obligations.EntryStacksTheFrame := by
  refine ⟨fun k s _ => enter_eq_entered k s, fun k s _ hs h => ?_⟩
  obtain ⟨⟨hwf, -⟩, -⟩ := (memoriesOk_iff s).1 hs
  have at_ {i j : Nat} {b : Byte} := stackByte_enteredState k h hwf (i := i) (j := j) (b := b)
  refine ⟨_, enter_wram k h, rfl, rfl, rfl, enteredState_e k s, enteredState_sp k h, fun he => ?_, fun he => ?_⟩
  · simp only [entryFrame, bankPushed, statusPushed, he] at at_
    exact ⟨at_ (i := 4) (j := 0) rfl rfl, at_ (i := 3) (j := 1) rfl rfl, at_ (i := 2) (j := 2) rfl rfl,
      at_ (i := 1) (j := 3) rfl rfl⟩
  · simp only [entryFrame, bankPushed, statusPushed, he] at at_
    exact ⟨at_ (i := 3) (j := 0) rfl rfl, at_ (i := 2) (j := 1) rfl rfl, at_ (i := 1) (j := 2) rfl rfl⟩

/-! ### The return (R381, R425) -/

theorem returnFromInterrupt_of_pops {s t u : State} {p : Byte} {pc : Word} (hp : pop8 s = .ok p t)
    (hpc : pop16 (t.writeP p) = .ok pc u) : returnFromInterrupt s =
      if u.e then .ok () { u with pc := pc } else (pop8 { u with pc := pc }).bind fun k w => .ok () { w with k := k } := by
  unfold returnFromInterrupt
  rw [hp, Res.ok_bind, hpc, Res.ok_bind]

theorem Flags.withWidths_eq {p : Flags} (hm : p.m = true) (hx : p.x = true) : { p with m := true, x := true } = p := by
  cases p
  simp_all

/-- `WriteP` of the pushed P gives P back: in emulation mode M and X are 1 (R31, R33). -/
theorem writtenP_statusPushed (k : IntKind) {s t : State} (hs : s.widthsOk = true) (he : t.e = s.e) :
    t.writtenP (statusPushed k s) = s.p := by
  obtain ⟨-, hemu⟩ := s.widthsOk_iff.1 hs
  unfold State.writtenP statusPushed
  rw [he]
  cases hse : s.e with
  | false => simp
  | true =>
    obtain ⟨hm, hx, -⟩ := hemu hse
    simpa using Flags.withWidths_eq hm hx

/-- `s` after a pull that leaves S at `sp` and reads `b` in WRAM. -/
def State.pulled (s : State) (sp : Word) (b : Byte) : State := { s with sp := sp, mdr := b }

/-- The state in which a return from the entry has the rest of the frame to pull, `j` bytes, the last read being `b`. -/
def returning (k : IntKind) (s : State) (j : Nat) (b : Byte) : State :=
  ((enteredState k s).writeP (statusPushed k s)).pulled (s.stackPlace j) b

theorem returning_e (k : IntKind) (s : State) (j : Nat) (b : Byte) : (returning k s j b).e = s.e := enteredState_e k s

section Return

variable {s : State} (k : IntKind) (hwf : s.wram.wf = true) (h : stackInWram s (if s.e then 3 else 4) = true)
include hwf h

/-- A pull of byte `j` of the frame. -/
theorem pop8_entryFrame {t : State} {j : Nat} {b : Byte} (hb : (entryFrame k s)[j]? = some b)
    (hwram : t.wram = (enteredState k s).wram) (he : t.e = s.e) (hsp : t.sp = s.stackPlace (j + 1)) :
    pop8 t = .ok b (t.pulled (s.stackPlace j) b) := by
  have hlen : (entryFrame k s).length = if s.e then 3 else 4 := by rw [entryFrame_length, bankPushed_length]
  have hj : j < if s.e then 3 else 4 := hlen ▸ (List.getElem?_eq_some_iff.1 hb).1
  refine pop8_of_withPushedBytes h hwf ?_ hj hb hwram he hsp
  rw [hlen]
  split <;> decide

theorem pop8_enteredState : pop8 (enteredState k s) =
    .ok (statusPushed k s) ((enteredState k s).pulled (s.stackPlace ((bankPushed s).length + 2)) (statusPushed k s)) := by
  have hsp : (enteredState k s).sp = s.stackPlace ((bankPushed s).length + 2 + 1) :=
    entryFrame_length k s ▸ withPushedBytes_sp _ s (stackPinned_of_stackInWram h)
  have hb : (entryFrame k s)[(bankPushed s).length + 2]? = some (statusPushed k s) := by simp [entryFrame]
  exact pop8_entryFrame k hwf h hb rfl (enteredState_e k s) hsp

theorem pop8_returning {j : Nat} {b : Byte} (hb : (entryFrame k s)[j]? = some b) (last : Byte) :
    pop8 (returning k s (j + 1) last) = .ok b (returning k s j b) :=
  pop8_entryFrame k hwf h (t := returning k s (j + 1) last) hb rfl (returning_e k s (j + 1) last) rfl

theorem pop16_returning (b : Byte) : pop16 (returning k s ((bankPushed s).length + 2) b) =
    .ok s.pc (returning k s (bankPushed s).length (hiByte s.pc)) := by
  have hlo : (entryFrame k s)[(bankPushed s).length + 1]? = some (loByte s.pc) := by simp [entryFrame]
  have hhi : (entryFrame k s)[(bankPushed s).length]? = some (hiByte s.pc) := by simp [entryFrame]
  have hpop := pop16_of_pop8 (pop8_returning k hwf h hlo b) (pop8_returning k hwf h hhi (loByte s.pc))
  rwa [mkWord_hiByte_loByte] at hpop

/-- The return from an entry pulls P, PC and, in native mode, K. -/
theorem returnFromInterrupt_enteredState : ∃ b, returnFromInterrupt (enteredState k s) =
    .ok () { returning k s 0 b with pc := s.pc, k := if s.e then 0 else s.k } := by
  have he := returning_e k s (bankPushed s).length (hiByte s.pc)
  rw [returnFromInterrupt_of_pops (pop8_enteredState k hwf h) (pop16_returning k hwf h _)]
  cases hse : s.e with
  | true =>
    have hbank : bankPushed s = [] := if_pos hse
    rw [if_pos (he.trans hse), hbank]
    exact ⟨_, rfl⟩
  | false =>
    have hbank : bankPushed s = [s.k] := if_neg (by simp [hse])
    have hb : (entryFrame k s)[0]? = some s.k := by simp [entryFrame, hbank]
    have hpop := pop8_entryFrame k hwf h (t := { returning k s 1 (hiByte s.pc) with pc := s.pc }) hb rfl
      (returning_e k s 1 (hiByte s.pc)) rfl
    rw [if_neg (by simp [he, hse]), hbank, List.length_singleton, hpop, Res.ok_bind]
    exact ⟨s.k, rfl⟩

end Return

/-- An index register that is 8 bits wide where X = 1 keeps its value in `WriteP` (R22, R33). -/
theorem index_of_widthsOk {x : Word} {flag : Bool} (h : flag = true → hiByte x = 0) :
    (if flag then zext8 (loByte x) else x) = x := by
  cases flag with
  | false => rfl
  | true => exact zext8_loByte_of_hiByte x (h rfl)

/-- Settles O45: the return pulls the frame that the entry pushed, and `WriteP` of the pushed P changes no index register. -/
theorem rtiUndoesEntry : Obligations.RtiUndoesEntry := by
  intro k s _ hs h
  obtain ⟨hmem, hwidths⟩ := s.inv_iff.1 hs
  obtain ⟨⟨hwf, -⟩, -⟩ := (memoriesOk_iff s).1 hmem
  obtain ⟨hindex, -⟩ := s.widthsOk_iff.1 hwidths
  obtain ⟨b, hreturn⟩ := returnFromInterrupt_enteredState k hwf h
  have hpushes := withPushedBytes_stackOnly (entryFrame k s) s
  have hp : (enteredState k s).writtenP (statusPushed k s) = s.p := writtenP_statusPushed k hwidths (enteredState_e k s)
  have hx : (enteredState k s).x = s.x := hpushes.x_eq
  have hy : (enteredState k s).y = s.y := hpushes.y_eq
  refine ⟨_, _, enter_wram k h, finish_of_ok hreturn, rfl, hp, stackPinned_of_stackInWram h, enteredState_e k s, rfl,
    hpushes.a_eq, ?_, ?_, hpushes.d_eq, hpushes.dbr_eq⟩
  · change (if ((enteredState k s).writtenP _).x then zext8 (loByte (enteredState k s).x) else (enteredState k s).x) = s.x
    rw [hp, hx]
    exact index_of_widthsOk fun hf => (hindex hf).1
  · change (if ((enteredState k s).writtenP _).x then zext8 (loByte (enteredState k s).y) else (enteredState k s).y) = s.y
    rw [hp, hy]
    exact index_of_widthsOk fun hf => (hindex hf).2

end Sys2Proof.Machine
end

section
/-! PROOFS. The DMA engine (R450-R457): the order of the channels, the PPU-bus addresses of the patterns, a transfer byte by
byte, and what a completed channel leaves. -/

namespace Sys2Proof.Machine

open Sys2Proof.Claims

/-! ### The channels in order (R455) -/

theorem Res.bind_unit (r : Res Unit) : (r.bind fun _ t => .ok () t) = r := by
  cases r <;> rfl

theorem dmaChannels_after (v : Byte) : ∀ (ns : List Nat) (r : Res Unit), (r.bind fun _ t => dmaChannels v ns t) =
    (ns.filter fun n => v.getLsbD n).foldl (fun r n => r.bind fun _ t => dmaChannel n t) r
  | [], r => r.bind_unit
  | n :: ns, r => by
    cases hn : v.getLsbD n with
    | true =>
      rw [List.filter_cons_of_pos hn, List.foldl_cons, ← dmaChannels_after v ns, Res.bind_assoc]
      simp [dmaChannels, hn]
    | false =>
      rw [List.filter_cons_of_neg (by simp [hn]), ← dmaChannels_after v ns]
      simp [dmaChannels, hn]

/-! ### The PPU-bus addresses (R453) -/

/-- The offset from BBADn of byte `k` of a transfer. -/
def dmaOffset (pattern k : Nat) : Nat := (dmaOffsets pattern).getD (k % (dmaOffsets pattern).length) 0

theorem dmaBAddr_eq (pattern : Nat) (bbad : Byte) (k : Nat) :
    dmaBAddr pattern bbad k = mkAddr 0 (mkWord 0x21 (bbad + BitVec.ofNat 8 (dmaOffset pattern k))) := rfl

theorem dmaBAddr_toNat (pattern : Nat) (bbad : Byte) (k : Nat) :
    (dmaBAddr pattern bbad k).toNat = 0x2100 + (bbad.toNat + dmaOffset pattern k) % 0x100 := by
  rw [dmaBAddr_eq, mkAddr_toNat, mkWord_toNat, BitVec.toNat_add, BitVec.toNat_ofNat]
  simp

theorem dmaOffset_pattern0 (k : Nat) : dmaOffset 0 k = 0 := by
  simp [dmaOffset, dmaOffsets, Nat.mod_one]

theorem dmaOffset_pattern1 (k : Nat) : dmaOffset 1 k = k % 2 :=
  (by decide : ∀ i < 2, [0, 1].getD i 0 = i) _ (Nat.mod_lt k (by decide))

theorem dmaOffset_pattern2 (k : Nat) : dmaOffset 2 k = 0 :=
  (by decide : ∀ i < 2, [0, 0].getD i 0 = 0) _ (Nat.mod_lt k (by decide))

theorem dmaOffset_pattern3 (k : Nat) : dmaOffset 3 k = k % 4 / 2 :=
  (by decide : ∀ i < 4, [0, 0, 1, 1].getD i 0 = i / 2) _ (Nat.mod_lt k (by decide))

theorem dmaOffset_pattern4 (k : Nat) : dmaOffset 4 k = k % 4 :=
  (by decide : ∀ i < 4, [0, 1, 2, 3].getD i 0 = i) _ (Nat.mod_lt k (by decide))

/-- The PPU-bus address is a register cell of the PPU surface. -/
theorem decodeAddr_dmaBAddr (pattern : Nat) (bbad : Byte) (k : Nat) :
    ∃ o, decodeAddr (dmaBAddr pattern bbad k) = .reg o ∧ o < 0x4000 := by
  have hlow := (bbad + BitVec.ofNat 8 (dmaOffset pattern k)).isLt
  have hoff := mkWord_toNat 0x21 (bbad + BitVec.ofNat 8 (dmaOffset pattern k))
  have hpage : (0x21 : Byte).toNat = 0x21 := rfl
  rw [dmaBAddr_eq]
  refine ⟨_, decodeAddr_mirrorBank_reg (b := 0) (by decide) ?_, by omega⟩
  simp only [isCellOffset, Bool.or_eq_true, decide_eq_true_eq]
  omega

/-! ### One byte (R454, R455) -/

/-- The two accesses of one byte: bit 7 of the control byte chooses the side that is read. -/
def dmaAccess (ctl : Byte) (a b : Addr) (s : State) : Res Unit :=
  if ctl.toNat < 0x80 then (memRead a s).bind fun v t => memWrite b v t else (memRead b s).bind fun v t => memWrite a v t

theorem getLsbD_seven (ctl : Byte) : ctl.getLsbD 7 = decide (0x80 ≤ ctl.toNat) := BitVec.msb_eq_decide ctl

theorem dmaByte_of_reg {a : Addr} {o : Nat} (h : decodeAddr a = .reg o) (n : Nat) (ctl : Byte) (b : Addr) (s : State) :
    dmaByte n ctl a b s = .raise (.dmaAbusRegister n a s.opAddr) s := by
  simp [dmaByte, h]

/-- No write of the engine reaches the DMA-enable register, so its plain store is the full bus write. -/
theorem dmaByte_eq_dmaAccess {a b : Addr} (ha : ∀ o, decodeAddr a ≠ .reg o) (hb : decodeAddr b ≠ .reg 0x420B) (n : Nat)
    (ctl : Byte) (s : State) : dmaByte n ctl a b s = dmaAccess ctl a b s := by
  have hbyte : dmaByte n ctl a b s = if ctl.getLsbD 7 then (memRead b s).bind fun v t => storeByte a v t
      else (memRead a s).bind fun v t => storeByte b v t := by
    unfold dmaByte
    cases hd : decodeAddr a with
    | reg o => exact absurd hd (ha o)
    | _ => rfl
  simp only [hbyte, dmaAccess, memWrite_eq_storeByte (ha 0x420B), memWrite_eq_storeByte hb, getLsbD_seven,
    decide_eq_true_eq, ← Nat.not_lt, ite_not]

/-! ### A transfer (R455) -/

section Transfer

variable {ctl bbad bank : Byte}

theorem dmaByte_eq_dmaAccess_of_channel {off : Word} (h : ∀ o, decodeAddr (mkAddr bank off) ≠ .reg o) (n k : Nat) (s : State) :
    dmaByte n ctl (mkAddr bank off) (dmaBAddr (ctl.toNat % 8) bbad k) s =
      dmaAccess ctl (mkAddr bank off) (dmaBAddr (ctl.toNat % 8) bbad k) s := by
  obtain ⟨o, hb, ho⟩ := decodeAddr_dmaBAddr (ctl.toNat % 8) bbad k
  refine dmaByte_eq_dmaAccess h ?_ n ctl s
  rw [hb]
  exact fun heq => absurd (Region.reg.inj heq) (by omega)

/-- The bytes of a transfer done, the engine goes on with the rest. -/
theorem dmaBytes_of_transfers {n k k' : Nat} {off off' : Word} {s t : State} (h : Transfers ctl bbad bank k off s k' off' t) :
    ∃ m, k' = k + m ∧ ∀ r, dmaBytes n ctl bbad bank (m + r) k off s = dmaBytes n ctl bbad bank r k' off' t := by
  induction h with
  | done => exact ⟨0, rfl, fun r => by rw [Nat.zero_add]⟩
  | @byte k k' off off' s s1 s2 t v hreg hr hw rest ih =>
    obtain ⟨m, rfl, hm⟩ := ih
    refine ⟨m + 1, by omega, fun r => ?_⟩
    have haccess : dmaAccess ctl (mkAddr bank off) (dmaBAddr (ctl.toNat % 8) bbad k) s = .ok () s2 := by
      unfold dmaAccess
      split at hr <;> simp_all
    rw [Nat.succ_add, dmaBytes, dmaByte_eq_dmaAccess_of_channel hreg, haccess, Res.ok_bind]
    exact hm r

end Transfer

/-! ### A channel (R453, R455) -/

section Channel

variable (n : Nat) (s : State)

/-- The control byte of a channel, DMAPn (R451, R452). -/
def dmaControl : Byte := s.cells.read (0x4300 + 0x10 * n)

/-- The CPU-bus offset of a channel, A1Tn. -/
def dmaStart : Word := mkWord (s.cells.read (0x4300 + 0x10 * n + 3)) (s.cells.read (0x4300 + 0x10 * n + 2))

/-- The transfer size of a channel, DASn. -/
def dmaSize : Word := mkWord (s.cells.read (0x4300 + 0x10 * n + 6)) (s.cells.read (0x4300 + 0x10 * n + 5))

/-- The bytes of a channel's transfer, from byte `k` on. -/
def channelBytes (remaining k : Nat) (off : Word) (t : State) : Res Word :=
  dmaBytes n (dmaControl n s) (s.cells.read (0x4300 + 0x10 * n + 1)) (s.cells.read (0x4300 + 0x10 * n + 4)) remaining k off t

/-- The bytes that a channel has moved: from byte 0 in `s` to byte `k` in `t`, the next being at offset `off`. -/
def Moving (k : Nat) (off : Word) (t : State) : Prop :=
  Transfers (dmaControl n s) (s.cells.read (0x4300 + 0x10 * n + 1)) (s.cells.read (0x4300 + 0x10 * n + 4)) 0 (dmaStart n s) s
    k off t

theorem dmaChannel_of_no_pattern (h : 4 < (dmaControl n s).toNat % 8) :
    dmaChannel n s = .raise (.dmaPattern n (dmaControl n s) s.opAddr) s := if_pos h

theorem dmaChannel_of_pattern (h : (dmaControl n s).toNat % 8 ≤ 4) :
    dmaChannel n s = (channelBytes n s (dmaSize n s).toNat 0 (dmaStart n s) s).bind fun off t =>
      .ok () (dmaWriteBack (0x4300 + 0x10 * n) off t) := if_neg (Nat.not_lt.2 h)

variable {n s} {k : Nat} {off : Word} {t : State}

/-- The bytes moved, the channel goes on with the rest. -/
theorem channelBytes_of_moving (h : Moving n s k off t) (r : Nat) :
    channelBytes n s (k + r) 0 (dmaStart n s) s = channelBytes n s r k off t := by
  obtain ⟨m, rfl, hm⟩ := dmaBytes_of_transfers (n := n) h
  rw [Nat.zero_add] at hm ⊢
  exact hm r

theorem moving_busOnly (h : Moving n s k off t) : BusOnly s t :=
  (dmaBytes_busOnly _ _ _ _ _ _ _ s).of_ok (channelBytes_of_moving h 0)

/-- A channel that moves all its bytes writes its registers back. -/
theorem dmaChannel_of_moving (hp : (dmaControl n s).toNat % 8 ≤ 4) (h : Moving n s (dmaSize n s).toNat off t) :
    dmaChannel n s = .ok () (dmaWriteBack (0x4300 + 0x10 * n) off t) := by
  have hbytes : channelBytes n s (dmaSize n s).toNat 0 (dmaStart n s) s = .ok off t := channelBytes_of_moving h 0
  rw [dmaChannel_of_pattern n s hp, hbytes, Res.ok_bind]

/-- A byte that raises ends the channel there, with nothing written back. -/
theorem dmaChannel_of_raise {f : Fault} {u : State} (hp : (dmaControl n s).toNat % 8 ≤ 4) (hk : k < (dmaSize n s).toNat)
    (h : Moving n s k off t) (hraise : dmaByte n (dmaControl n s) (mkAddr (s.cells.read (0x4300 + 0x10 * n + 4)) off)
      (dmaBAddr ((dmaControl n s).toNat % 8) (s.cells.read (0x4300 + 0x10 * n + 1)) k) t = .raise f u) :
    dmaChannel n s = .raise f u := by
  obtain ⟨r, hr⟩ : ∃ r, (dmaSize n s).toNat = k + (r + 1) := ⟨(dmaSize n s).toNat - k - 1, by omega⟩
  rw [dmaChannel_of_pattern n s hp, hr, channelBytes_of_moving h, channelBytes, dmaBytes, hraise, Res.raise_bind,
    Res.raise_bind]

end Channel

/-- Settles O50: the channels as a fold, the patterns by their offsets, and a channel by the bytes it has moved. -/
theorem dmaMovesBytesInOrder : Obligations.DmaMovesBytesInOrder := by
  refine ⟨fun v s => dmaChannels_after v [0, 1, 2, 3, 4, 5, 6, 7] (.ok () s), fun bbad k => ?_, fun n s => ?_⟩
  · simp only [dmaBAddr_toNat, dmaOffset_pattern0, dmaOffset_pattern1, dmaOffset_pattern2, dmaOffset_pattern3,
      dmaOffset_pattern4, and_self]
  · refine ⟨dmaChannel_of_no_pattern n s, fun hp => ⟨fun _ _ h => dmaChannel_of_moving hp h, fun k off t hk h => ?_⟩⟩
    refine ⟨fun o ho => ?_, fun f u hreg hraise => ?_⟩
    · rw [← (moving_busOnly h).opAddr_eq]
      exact dmaChannel_of_raise hp hk h (dmaByte_of_reg ho n _ _ t)
    · exact dmaChannel_of_raise hp hk h ((dmaByte_eq_dmaAccess_of_channel hreg n k t).trans hraise)

/-! ### What a completed channel leaves (R455, R456) -/

/-- Each byte steps the CPU-bus offset once. -/
theorem dmaBytes_offset {n : Nat} {ctl bbad bank : Byte} : ∀ {r k : Nat} {off off' : Word} {s t : State},
    dmaBytes n ctl bbad bank r k off s = .ok off' t → off' = off + BitVec.ofNat 16 r * dmaStep ctl
  | 0, _, off, _, _, _, h => by
    cases h
    simp
  | r + 1, _, off, _, _, _, h => by
    obtain ⟨_, s1, -, hrest⟩ := Res.bind_eq_ok.1 h
    rw [dmaBytes_offset hrest, BitVec.ofNat_add, BitVec.add_mul, BitVec.one_mul, BitVec.add_comm (_ * _), BitVec.add_assoc]

/-- A plain store leaves every register cell but the one it addresses. -/
theorem storeByte_cell {a : Addr} {o : Nat} (h : decodeAddr a ≠ .reg o) (v : Byte) (s : State) :
    (storeByte a v s).All fun t => t.cells.read o = s.cells.read o := by
  unfold storeByte
  cases hd : decodeAddr a with
  | reg o' => exact Memory.read_write_other _ _ _ _ fun heq => h (heq ▸ hd)
  | cart c =>
    dsimp only
    cases cartWrite s.cart c v <;> rfl
  | _ => rfl

/-- A read, then a plain store, leaves every register cell but the one the store addresses. -/
theorem copyByte_cell (src : Addr) {dst : Addr} {o : Nat} (h : decodeAddr dst ≠ .reg o) (s : State) :
    ((memRead src s).bind fun v t => storeByte dst v t).All fun t => t.cells.read o = s.cells.read o :=
  (memRead_readOnly src s).bind (fun _ hr => congrArg (Memory.read · o) hr.cells_eq) fun v t hr =>
    (storeByte_cell h v t).mono fun _ hw => hw.trans (congrArg (Memory.read · o) hr.cells_eq)

/-- A transfer leaves the cells from 0x4000 on: it writes the PPU surface, or no register cell at all. -/
theorem dmaByte_cell {o : Nat} (ho : 0x4000 ≤ o) (n : Nat) (ctl : Byte) (a : Addr) (pattern : Nat) (bbad : Byte) (k : Nat)
    (s : State) : (dmaByte n ctl a (dmaBAddr pattern bbad k) s).All fun t => t.cells.read o = s.cells.read o := by
  have hb : decodeAddr (dmaBAddr pattern bbad k) ≠ .reg o := by
    obtain ⟨o', hb, ho'⟩ := decodeAddr_dmaBAddr pattern bbad k
    rw [hb]
    exact fun heq => absurd (Region.reg.inj heq) (by omega)
  unfold dmaByte
  split
  · rfl
  · next ha =>
    split
    · exact copyByte_cell _ (ha o) s
    · exact copyByte_cell a hb s

theorem dmaBytes_cell {o : Nat} (ho : 0x4000 ≤ o) (n : Nat) (ctl bbad bank : Byte) : ∀ (r k : Nat) (off : Word) (s : State),
    (dmaBytes n ctl bbad bank r k off s).All fun t => t.cells.read o = s.cells.read o
  | 0, _, _, _ => rfl
  | r + 1, k, _, s => (dmaByte_cell ho n ctl _ _ bbad k s).bind (fun _ h => h) fun _ t h =>
      (dmaBytes_cell ho n ctl bbad bank r (k + 1) _ t).mono fun _ h' => h'.trans h

section WriteBack

variable {base : Nat} {off : Word} {s : State}

theorem dmaWriteBack_other {o : Nat} (h : o ∉ [base + 2, base + 3, base + 5, base + 6]) :
    (dmaWriteBack base off s).cells.read o = s.cells.read o := by
  simp only [List.mem_cons, List.not_mem_nil, or_false, not_or] at h
  obtain ⟨h2, h3, h5, h6⟩ := h
  simp only [dmaWriteBack, Memory.read_write_other _ _ _ _ h6, Memory.read_write_other _ _ _ _ h5,
    Memory.read_write_other _ _ _ _ h3, Memory.read_write_other _ _ _ _ h2]

theorem dmaWriteBack_registers (hwf : s.cells.wf = true) : let t := dmaWriteBack base off s
    t.cells.read (base + 5) = 0 ∧ t.cells.read (base + 6) = 0 ∧
      mkWord (t.cells.read (base + 3)) (t.cells.read (base + 2)) = off := by
  have h2 := Memory.wf_write _ (base + 2) (loByte off) hwf
  have h3 := Memory.wf_write _ (base + 3) (hiByte off) h2
  have h5 := Memory.wf_write _ (base + 5) 0 h3
  have hlo : (dmaWriteBack base off s).cells.read (base + 2) = loByte off := by
    simp [dmaWriteBack, Memory.read_write_other, Memory.read_write_same _ _ _ hwf]
  have hhi : (dmaWriteBack base off s).cells.read (base + 3) = hiByte off := by
    simp [dmaWriteBack, Memory.read_write_other, Memory.read_write_same _ _ _ h2]
  have hsize : (dmaWriteBack base off s).cells.read (base + 5) = 0 := by
    simp [dmaWriteBack, Memory.read_write_other, Memory.read_write_same _ _ _ h3]
  refine ⟨hsize, Memory.read_write_same _ _ _ h5, ?_⟩
  rw [hlo, hhi, mkWord_hiByte_loByte]

end WriteBack

/-- A channel that completes has moved its bytes and written its registers back. -/
theorem dmaChannel_ok {n : Nat} {s t : State} (h : dmaChannel n s = .ok () t) : ∃ off u,
    channelBytes n s (dmaSize n s).toNat 0 (dmaStart n s) s = .ok off u ∧ t = dmaWriteBack (0x4300 + 0x10 * n) off u := by
  rcases Nat.lt_or_ge 4 ((dmaControl n s).toNat % 8) with hp | hp
  · exact nomatch (dmaChannel_of_no_pattern n s hp).symm.trans h
  · rw [dmaChannel_of_pattern n s hp] at h
    obtain ⟨off, u, hbytes, hback⟩ := Res.bind_eq_ok.1 h
    cases hback
    exact ⟨off, u, hbytes, rfl⟩

/-- Settles O51: the bytes leave the cells from 0x4000 on and step the offset; the write-back changes the channel's registers. -/
theorem completedDmaLeaves : Obligations.CompletedDmaLeaves := by
  intro n s t hn hs h base ctl size stepBy
  obtain ⟨off, u, hbytes, rfl⟩ := dmaChannel_ok h
  obtain ⟨-, ⟨hwf, -⟩, -⟩ := (memoriesOk_iff u).1 ((dmaBytes_keepsMemories _ _ _ _ _ _ _ s).of_ok hbytes hs)
  obtain ⟨hsizeLow, hsizeHigh, hoff⟩ := dmaWriteBack_registers (base := base) (off := off) hwf
  have hstep : off = dmaStart n s + size * stepBy := by
    rw [dmaBytes_offset hbytes, BitVec.ofNat_toNat, BitVec.setWidth_eq]
    rfl
  refine ⟨hsizeLow, hsizeHigh, hoff.trans hstep, fun o ho hother => ?_, (dmaChannel_busOnly n s).of_ok h⟩
  exact (dmaWriteBack_other hother).trans ((dmaBytes_cell ho n _ _ _ _ _ _ s).of_ok hbytes)

end Sys2Proof.Machine
end
